-- ==== Sys2Proof/Word.lean ====
section
/-! DEFINITION. The word types of the DDM core. 00_scope.md R10 and R11: register data is 32 bits, a register
offset 8 bits, the stream carries 8-bit bytes, and bit 0 is the least significant bit of a value. -/

namespace Sys2Proof

/-- A register's value, a DATA word, a command word or a pixel word (00_scope.md R10). -/
abbrev Word := BitVec 32

/-- One byte: of the output stream, or of the framebuffer's storage. -/
abbrev Byte := BitVec 8

/-- A byte offset into the 256-byte register window (20_memory.md R61). -/
abbrev Offset := BitVec 8

/-- The access descriptor, W in bit 8 and OFF in bits 7:0 (30_encoding.md R80). -/
abbrev Descriptor := BitVec 9

end Sys2Proof
end

