-- ==== Sys2Proof/Config.lean ====
section
/-! DEFINITION. What an implementation of the DDM core fixes (00_scope.md R9): the largest panel dimensions, the
framebuffer capacity, and the identification value. -/

namespace Sys2Proof

/-- The implementation parameters of 00_scope.md R9, which "a model takes as an argument of its configuration".
They stand in State as plain data that no step changes, so every statement about all states holds for every value
the spec allows (DESIGN CHOICE, log entry 7). -/
structure Params where
  /-- MAX_WIDTH, 1 to 65535. -/
  maxWidth : Nat
  /-- MAX_HEIGHT, 1 to 65535. -/
  maxHeight : Nat
  /-- FB_MAX_PIXELS, at least 1. -/
  fbMaxPixels : Nat
deriving DecidableEq, Repr

namespace Config

/-- ID_VALUE, fixed by the spec (10_state.md R31). -/
def idValue : Word := 0x444F5401#32

/-- FB_MAX_PIXELS less one, with no value: the spec leaves FB_MAX_PIXELS OPEN (00_scope.md R9; 92_eei_decisions.md
D7), an integer of at least 1. Nothing can be proved of this number (log entry 7). -/
opaque fbMaxPixelsLessOne : Nat

/-- FB_MAX_PIXELS of the machine that `State.reset` describes: any integer of at least 1. -/
def fbMaxPixels : Nat := fbMaxPixelsLessOne + 1

/-- The parameters of the machine that `State.reset` describes: the spec's defaults for MAX_WIDTH and MAX_HEIGHT
(00_scope.md R9), and the open capacity. -/
def params : Params := { maxWidth := 65535, maxHeight := 65535, fbMaxPixels := fbMaxPixels }

end Config
end Sys2Proof
end

