-- ==== Sys2Proof/Syntax.lean ====
section
/-! DEFINITION. What a host can present to the DDM core: the register access (30_encoding.md R80), the command word
(R83), the 141 instructions of spec/opcode_table.json as one inductive, and the assembler lines and
pseudo-instructions of R94 and R95. -/

namespace Sys2Proof

/-- Format ACC (30_encoding.md R80): one register access as the host issues it. A read carries no DATA. -/
inductive Access where
  | read (off : Offset)
  | write (off : Offset) (data : Word)
deriving DecidableEq, Repr

/-- The two encoded forms the DDM core decodes (30_encoding.md, section 1): a register access, and a command word,
which is the DATA of a write to CMD. -/
inductive Encoding where
  | acc (a : Access)
  | cmd (word : Word)
deriving DecidableEq, Repr

/-- The registers of 30_encoding.md R82. -/
inductive RegName where
  | id
  | status
  | cmd
  | arg0
  | arg1
  | rdata
  | outLen
  | cfgWidth
  | cfgHeight
  | cfgModes
  | cfgScan
  | cfgBitord
  | cfgRowOffset
  | cfgColOffset
  | fbWidth
  | fbHeight
  | fbMode
deriving DecidableEq, Repr

/-- The instructions: one constructor for each row of spec/opcode_table.json, in the table's order. A read has no
operand field; a write carries its DATA (also where the spec ignores it); a misaligned access carries OFF[7:2]; an
illegal command word carries the bits its row leaves free. -/
inductive Instr where
  -- register reads (40_config.md R114)
  | rdId
  | rdStatus
  | rdCmd
  | rdArg0
  | rdArg1
  | rdRdata
  | rdOutLen
  | rdCfgWidth
  | rdCfgHeight
  | rdCfgModes
  | rdCfgScan
  | rdCfgBitord
  | rdCfgRowOffset
  | rdCfgColOffset
  | rdFbWidth
  | rdFbHeight
  | rdFbMode
  -- writes to registers: storage (R115, R116), setters (R117 to R123), CMD (R126), read-only ones refused (R125)
  | wrIdReadOnly (data : Word)
  | wrStatusReadOnly (data : Word)
  | wrCmd (data : Word)
  | wrArg0 (data : Word)
  | wrArg1 (data : Word)
  | wrRdataReadOnly (data : Word)
  | wrOutLenReadOnly (data : Word)
  | wrCfgWidth (data : Word)
  | wrCfgHeight (data : Word)
  | wrCfgModes (data : Word)
  | wrCfgScan (data : Word)
  | wrCfgBitord (data : Word)
  | wrCfgRowOffset (data : Word)
  | wrCfgColOffset (data : Word)
  | wrFbWidthReadOnly (data : Word)
  | wrFbHeightReadOnly (data : Word)
  | wrFbModeReadOnly (data : Word)
  -- reserved offsets (R113, R125)
  | rdReserved1C
  | wrReserved1C (data : Word)
  | rdReserved3C
  | wrReserved3C (data : Word)
  | rdReserved4C
  | wrReserved4C (data : Word)
  | rdReserved50
  | wrReserved50 (data : Word)
  | rdReserved54
  | wrReserved54 (data : Word)
  | rdReserved58
  | wrReserved58 (data : Word)
  | rdReserved5C
  | wrReserved5C (data : Word)
  | rdReserved60
  | wrReserved60 (data : Word)
  | rdReserved64
  | wrReserved64 (data : Word)
  | rdReserved68
  | wrReserved68 (data : Word)
  | rdReserved6C
  | wrReserved6C (data : Word)
  | rdReserved70
  | wrReserved70 (data : Word)
  | rdReserved74
  | wrReserved74 (data : Word)
  | rdReserved78
  | wrReserved78 (data : Word)
  | rdReserved7C
  | wrReserved7C (data : Word)
  | rdReserved80
  | wrReserved80 (data : Word)
  | rdReserved84
  | wrReserved84 (data : Word)
  | rdReserved88
  | wrReserved88 (data : Word)
  | rdReserved8C
  | wrReserved8C (data : Word)
  | rdReserved90
  | wrReserved90 (data : Word)
  | rdReserved94
  | wrReserved94 (data : Word)
  | rdReserved98
  | wrReserved98 (data : Word)
  | rdReserved9C
  | wrReserved9C (data : Word)
  | rdReservedA0
  | wrReservedA0 (data : Word)
  | rdReservedA4
  | wrReservedA4 (data : Word)
  | rdReservedA8
  | wrReservedA8 (data : Word)
  | rdReservedAC
  | wrReservedAC (data : Word)
  | rdReservedB0
  | wrReservedB0 (data : Word)
  | rdReservedB4
  | wrReservedB4 (data : Word)
  | rdReservedB8
  | wrReservedB8 (data : Word)
  | rdReservedBC
  | wrReservedBC (data : Word)
  | rdReservedC0
  | wrReservedC0 (data : Word)
  | rdReservedC4
  | wrReservedC4 (data : Word)
  | rdReservedC8
  | wrReservedC8 (data : Word)
  | rdReservedCC
  | wrReservedCC (data : Word)
  | rdReservedD0
  | wrReservedD0 (data : Word)
  | rdReservedD4
  | wrReservedD4 (data : Word)
  | rdReservedD8
  | wrReservedD8 (data : Word)
  | rdReservedDC
  | wrReservedDC (data : Word)
  | rdReservedE0
  | wrReservedE0 (data : Word)
  | rdReservedE4
  | wrReservedE4 (data : Word)
  | rdReservedE8
  | wrReservedE8 (data : Word)
  | rdReservedEC
  | wrReservedEC (data : Word)
  | rdReservedF0
  | wrReservedF0 (data : Word)
  | rdReservedF4
  | wrReservedF4 (data : Word)
  | rdReservedF8
  | wrReservedF8 (data : Word)
  | rdReservedFC
  | wrReservedFC (data : Word)
  -- misaligned offsets, OFF[1:0] in the name (R113, R125)
  | rdMisaligned1 (o : BitVec 6)
  | rdMisaligned2 (o : BitVec 6)
  | rdMisaligned3 (o : BitVec 6)
  | wrMisaligned1 (o : BitVec 6) (data : Word)
  | wrMisaligned2 (o : BitVec 6) (data : Word)
  | wrMisaligned3 (o : BitVec 6) (data : Word)
  -- command words (41_framebuffer.md R141 to R144; 44_modulator.md R210; 40_config.md R126)
  | fbSetup
  | fbWrite
  | fbRead
  | fbFill
  | generate
  | illegalCommand (hi : BitVec 24) (opc : BitVec 8)
  | reservedCommand (opc : BitVec 8)
deriving DecidableEq, Repr

/-- The place an assembler line names (30_encoding.md R94): a register, or an offset in hex where no register stands. -/
inductive AsmPlace where
  | reg (r : RegName)
  | off (o : Offset)
deriving DecidableEq, Repr

/-- One line of the assembly language of 30_encoding.md R94. -/
inductive AsmLine where
  | rd (p : AsmPlace)
  | wr (p : AsmPlace) (value : Word)
deriving DecidableEq, Repr

/-- The pseudo-instructions of 30_encoding.md R95; w, h, x and y are below 2^16, as the rule asks. -/
inductive Pseudo where
  | setup (w h : BitVec 16) (m : Word)
  | pix (x y : BitVec 16) (p : Word)
  | peek (x y : BitVec 16)
  | fill (p : Word)
  | gen
  | check
deriving DecidableEq, Repr

end Sys2Proof
end

