-- ==== Sys2Proof/WellFormed.lean ====
section
/-! DEFINITION. Which terms of `Instr` stand for an encoding. Every operand field has exactly its encoding's width,
so the only checks are the two that keep the refused command words apart from the listed ones (30_encoding.md R83,
R84, R91). -/

namespace Sys2Proof

/-- The OPC values of 30_encoding.md R84. -/
def listedOpcodes : List (BitVec 8) := [0x01#8, 0x02#8, 0x03#8, 0x04#8, 0x10#8]

/-- An illegal command word has bits 31:8 not all zero, and a reserved one an OPC that R84 does not list
(30_encoding.md R91). Every other term is well formed. -/
def Instr.wellFormed (i : Instr) : Bool :=
  match i with
  | .illegalCommand hi _ => hi != 0#24
  | .reservedCommand opc => !listedOpcodes.contains opc
  | _ => true

end Sys2Proof
end

