-- ==== Sys2Proof/Decode.lean ====
section
/-! DEFINITION. The decoder and the encoder (30_encoding.md R80 to R84, R97), the bits of spec/opcode_table.json,
and the expansion of the assembler's lines (R94, R95). The decoder looks the offset up in the register map; the
encoder writes each instruction's offset out, so that their agreement says something. -/

namespace Sys2Proof

/-- Why a string of bits is no instruction. The first two can only arise from table bits of the wrong width, the
last from an aligned offset that the register map does not list (there is none: every offset has a row). -/
inductive DecodeReject where
  | descriptorTooWide
  | lengthUnknown
  | noRow
deriving DecidableEq, Repr

/-- OFF[1:0] (30_encoding.md R80). -/
def offLow (off : Offset) : BitVec 2 := off.extractLsb' 0 2

/-- OFF[7:2], the word slot of an offset. -/
def offSlot (off : Offset) : BitVec 6 := off.extractLsb' 2 6

/-- OPC, bits 7:0 of a command word (30_encoding.md R83). -/
def cmdOpc (w : Word) : BitVec 8 := w.extractLsb' 0 8

/-- MBZ, bits 31:8 of a command word (30_encoding.md R83). -/
def cmdHigh (w : Word) : BitVec 24 := w.extractLsb' 8 24

/-! ## The rows of aligned offsets (30_encoding.md R82, R91) -/

/-- Reads of the registers. -/
def registerReadRows : List (Offset × Instr) :=
  [ (0x00#8, .rdId), (0x04#8, .rdStatus), (0x08#8, .rdCmd), (0x0C#8, .rdArg0),
    (0x10#8, .rdArg1), (0x14#8, .rdRdata), (0x18#8, .rdOutLen), (0x20#8, .rdCfgWidth),
    (0x24#8, .rdCfgHeight), (0x28#8, .rdCfgModes), (0x2C#8, .rdCfgScan), (0x30#8, .rdCfgBitord),
    (0x34#8, .rdCfgRowOffset), (0x38#8, .rdCfgColOffset), (0x40#8, .rdFbWidth), (0x44#8, .rdFbHeight),
    (0x48#8, .rdFbMode) ]

/-- Reads of the reserved offsets. -/
def reservedReadRows : List (Offset × Instr) :=
  [ (0x1C#8, .rdReserved1C), (0x3C#8, .rdReserved3C), (0x4C#8, .rdReserved4C), (0x50#8, .rdReserved50),
    (0x54#8, .rdReserved54), (0x58#8, .rdReserved58), (0x5C#8, .rdReserved5C), (0x60#8, .rdReserved60),
    (0x64#8, .rdReserved64), (0x68#8, .rdReserved68), (0x6C#8, .rdReserved6C), (0x70#8, .rdReserved70),
    (0x74#8, .rdReserved74), (0x78#8, .rdReserved78), (0x7C#8, .rdReserved7C), (0x80#8, .rdReserved80),
    (0x84#8, .rdReserved84), (0x88#8, .rdReserved88), (0x8C#8, .rdReserved8C), (0x90#8, .rdReserved90),
    (0x94#8, .rdReserved94), (0x98#8, .rdReserved98), (0x9C#8, .rdReserved9C), (0xA0#8, .rdReservedA0),
    (0xA4#8, .rdReservedA4), (0xA8#8, .rdReservedA8), (0xAC#8, .rdReservedAC), (0xB0#8, .rdReservedB0),
    (0xB4#8, .rdReservedB4), (0xB8#8, .rdReservedB8), (0xBC#8, .rdReservedBC), (0xC0#8, .rdReservedC0),
    (0xC4#8, .rdReservedC4), (0xC8#8, .rdReservedC8), (0xCC#8, .rdReservedCC), (0xD0#8, .rdReservedD0),
    (0xD4#8, .rdReservedD4), (0xD8#8, .rdReservedD8), (0xDC#8, .rdReservedDC), (0xE0#8, .rdReservedE0),
    (0xE4#8, .rdReservedE4), (0xE8#8, .rdReservedE8), (0xEC#8, .rdReservedEC), (0xF0#8, .rdReservedF0),
    (0xF4#8, .rdReservedF4), (0xF8#8, .rdReservedF8), (0xFC#8, .rdReservedFC) ]

/-- Writes to the registers, the refused ones among them. -/
def registerWriteRows : List (Offset × (Word → Instr)) :=
  [ (0x00#8, .wrIdReadOnly), (0x04#8, .wrStatusReadOnly), (0x08#8, .wrCmd),
    (0x0C#8, .wrArg0), (0x10#8, .wrArg1), (0x14#8, .wrRdataReadOnly),
    (0x18#8, .wrOutLenReadOnly), (0x20#8, .wrCfgWidth), (0x24#8, .wrCfgHeight),
    (0x28#8, .wrCfgModes), (0x2C#8, .wrCfgScan), (0x30#8, .wrCfgBitord),
    (0x34#8, .wrCfgRowOffset), (0x38#8, .wrCfgColOffset), (0x40#8, .wrFbWidthReadOnly),
    (0x44#8, .wrFbHeightReadOnly), (0x48#8, .wrFbModeReadOnly) ]

/-- Writes to the reserved offsets. -/
def reservedWriteRows : List (Offset × (Word → Instr)) :=
  [ (0x1C#8, .wrReserved1C), (0x3C#8, .wrReserved3C), (0x4C#8, .wrReserved4C), (0x50#8, .wrReserved50),
    (0x54#8, .wrReserved54), (0x58#8, .wrReserved58), (0x5C#8, .wrReserved5C), (0x60#8, .wrReserved60),
    (0x64#8, .wrReserved64), (0x68#8, .wrReserved68), (0x6C#8, .wrReserved6C), (0x70#8, .wrReserved70),
    (0x74#8, .wrReserved74), (0x78#8, .wrReserved78), (0x7C#8, .wrReserved7C), (0x80#8, .wrReserved80),
    (0x84#8, .wrReserved84), (0x88#8, .wrReserved88), (0x8C#8, .wrReserved8C), (0x90#8, .wrReserved90),
    (0x94#8, .wrReserved94), (0x98#8, .wrReserved98), (0x9C#8, .wrReserved9C), (0xA0#8, .wrReservedA0),
    (0xA4#8, .wrReservedA4), (0xA8#8, .wrReservedA8), (0xAC#8, .wrReservedAC), (0xB0#8, .wrReservedB0),
    (0xB4#8, .wrReservedB4), (0xB8#8, .wrReservedB8), (0xBC#8, .wrReservedBC), (0xC0#8, .wrReservedC0),
    (0xC4#8, .wrReservedC4), (0xC8#8, .wrReservedC8), (0xCC#8, .wrReservedCC), (0xD0#8, .wrReservedD0),
    (0xD4#8, .wrReservedD4), (0xD8#8, .wrReservedD8), (0xDC#8, .wrReservedDC), (0xE0#8, .wrReservedE0),
    (0xE4#8, .wrReservedE4), (0xE8#8, .wrReservedE8), (0xEC#8, .wrReservedEC), (0xF0#8, .wrReservedF0),
    (0xF4#8, .wrReservedF4), (0xF8#8, .wrReservedF8), (0xFC#8, .wrReservedFC) ]

/-- Decoding a read (30_encoding.md R97, clause 1): a misaligned offset by OFF[1:0], an aligned one by its row. -/
def decodeRead (off : Offset) : Except DecodeReject Instr :=
  if offLow off = 1#2 then .ok (.rdMisaligned1 (offSlot off))
  else if offLow off = 2#2 then .ok (.rdMisaligned2 (offSlot off))
  else if offLow off = 3#2 then .ok (.rdMisaligned3 (offSlot off))
  else
    match (registerReadRows ++ reservedReadRows).lookup off with
    | some i => .ok i
    | none => .error .noRow

/-- Decoding a write (30_encoding.md R97, clauses 3 to 6). The refusal of every write while FATAL is set (clause 2)
is the meanings': it depends on the state. -/
def decodeWrite (off : Offset) (data : Word) : Except DecodeReject Instr :=
  if offLow off = 1#2 then .ok (.wrMisaligned1 (offSlot off) data)
  else if offLow off = 2#2 then .ok (.wrMisaligned2 (offSlot off) data)
  else if offLow off = 3#2 then .ok (.wrMisaligned3 (offSlot off) data)
  else
    match (registerWriteRows ++ reservedWriteRows).lookup off with
    | some i => .ok (i data)
    | none => .error .noRow

/-- Decoding one access of format ACC (30_encoding.md R97). -/
def decodeAccess : Access → Except DecodeReject Instr
  | .read off => decodeRead off
  | .write off data => decodeWrite off data

/-- Decoding a command word, format CMD (30_encoding.md R83, R84, R91). -/
def decodeCommand (w : Word) : Instr :=
  if cmdHigh w ≠ 0#24 then .illegalCommand (cmdHigh w) (cmdOpc w)
  else if cmdOpc w = 0x01#8 then .fbSetup
  else if cmdOpc w = 0x02#8 then .fbWrite
  else if cmdOpc w = 0x03#8 then .fbRead
  else if cmdOpc w = 0x04#8 then .fbFill
  else if cmdOpc w = 0x10#8 then .generate
  else .reservedCommand (cmdOpc w)

/-- The decoder of both formats. -/
def decode : Encoding → Except DecodeReject Instr
  | .acc a => decodeAccess a
  | .cmd w => .ok (decodeCommand w)

/-! ## The encoder -/

/-- OFF from its slot and its low bits. -/
def offOf (slot : BitVec 6) (low : BitVec 2) : Offset := slot ++ low

/-- The encoded form of an instruction: its access, or its command word (30_encoding.md R80, R82, R84). -/
def encode (i : Instr) : Encoding :=
  match i with
  | .rdId => .acc (.read 0x00#8)
  | .rdStatus => .acc (.read 0x04#8)
  | .rdCmd => .acc (.read 0x08#8)
  | .rdArg0 => .acc (.read 0x0C#8)
  | .rdArg1 => .acc (.read 0x10#8)
  | .rdRdata => .acc (.read 0x14#8)
  | .rdOutLen => .acc (.read 0x18#8)
  | .rdCfgWidth => .acc (.read 0x20#8)
  | .rdCfgHeight => .acc (.read 0x24#8)
  | .rdCfgModes => .acc (.read 0x28#8)
  | .rdCfgScan => .acc (.read 0x2C#8)
  | .rdCfgBitord => .acc (.read 0x30#8)
  | .rdCfgRowOffset => .acc (.read 0x34#8)
  | .rdCfgColOffset => .acc (.read 0x38#8)
  | .rdFbWidth => .acc (.read 0x40#8)
  | .rdFbHeight => .acc (.read 0x44#8)
  | .rdFbMode => .acc (.read 0x48#8)
  | .wrIdReadOnly data => .acc (.write 0x00#8 data)
  | .wrStatusReadOnly data => .acc (.write 0x04#8 data)
  | .wrCmd data => .acc (.write 0x08#8 data)
  | .wrArg0 data => .acc (.write 0x0C#8 data)
  | .wrArg1 data => .acc (.write 0x10#8 data)
  | .wrRdataReadOnly data => .acc (.write 0x14#8 data)
  | .wrOutLenReadOnly data => .acc (.write 0x18#8 data)
  | .wrCfgWidth data => .acc (.write 0x20#8 data)
  | .wrCfgHeight data => .acc (.write 0x24#8 data)
  | .wrCfgModes data => .acc (.write 0x28#8 data)
  | .wrCfgScan data => .acc (.write 0x2C#8 data)
  | .wrCfgBitord data => .acc (.write 0x30#8 data)
  | .wrCfgRowOffset data => .acc (.write 0x34#8 data)
  | .wrCfgColOffset data => .acc (.write 0x38#8 data)
  | .wrFbWidthReadOnly data => .acc (.write 0x40#8 data)
  | .wrFbHeightReadOnly data => .acc (.write 0x44#8 data)
  | .wrFbModeReadOnly data => .acc (.write 0x48#8 data)
  | .rdReserved1C => .acc (.read 0x1C#8)
  | .wrReserved1C data => .acc (.write 0x1C#8 data)
  | .rdReserved3C => .acc (.read 0x3C#8)
  | .wrReserved3C data => .acc (.write 0x3C#8 data)
  | .rdReserved4C => .acc (.read 0x4C#8)
  | .wrReserved4C data => .acc (.write 0x4C#8 data)
  | .rdReserved50 => .acc (.read 0x50#8)
  | .wrReserved50 data => .acc (.write 0x50#8 data)
  | .rdReserved54 => .acc (.read 0x54#8)
  | .wrReserved54 data => .acc (.write 0x54#8 data)
  | .rdReserved58 => .acc (.read 0x58#8)
  | .wrReserved58 data => .acc (.write 0x58#8 data)
  | .rdReserved5C => .acc (.read 0x5C#8)
  | .wrReserved5C data => .acc (.write 0x5C#8 data)
  | .rdReserved60 => .acc (.read 0x60#8)
  | .wrReserved60 data => .acc (.write 0x60#8 data)
  | .rdReserved64 => .acc (.read 0x64#8)
  | .wrReserved64 data => .acc (.write 0x64#8 data)
  | .rdReserved68 => .acc (.read 0x68#8)
  | .wrReserved68 data => .acc (.write 0x68#8 data)
  | .rdReserved6C => .acc (.read 0x6C#8)
  | .wrReserved6C data => .acc (.write 0x6C#8 data)
  | .rdReserved70 => .acc (.read 0x70#8)
  | .wrReserved70 data => .acc (.write 0x70#8 data)
  | .rdReserved74 => .acc (.read 0x74#8)
  | .wrReserved74 data => .acc (.write 0x74#8 data)
  | .rdReserved78 => .acc (.read 0x78#8)
  | .wrReserved78 data => .acc (.write 0x78#8 data)
  | .rdReserved7C => .acc (.read 0x7C#8)
  | .wrReserved7C data => .acc (.write 0x7C#8 data)
  | .rdReserved80 => .acc (.read 0x80#8)
  | .wrReserved80 data => .acc (.write 0x80#8 data)
  | .rdReserved84 => .acc (.read 0x84#8)
  | .wrReserved84 data => .acc (.write 0x84#8 data)
  | .rdReserved88 => .acc (.read 0x88#8)
  | .wrReserved88 data => .acc (.write 0x88#8 data)
  | .rdReserved8C => .acc (.read 0x8C#8)
  | .wrReserved8C data => .acc (.write 0x8C#8 data)
  | .rdReserved90 => .acc (.read 0x90#8)
  | .wrReserved90 data => .acc (.write 0x90#8 data)
  | .rdReserved94 => .acc (.read 0x94#8)
  | .wrReserved94 data => .acc (.write 0x94#8 data)
  | .rdReserved98 => .acc (.read 0x98#8)
  | .wrReserved98 data => .acc (.write 0x98#8 data)
  | .rdReserved9C => .acc (.read 0x9C#8)
  | .wrReserved9C data => .acc (.write 0x9C#8 data)
  | .rdReservedA0 => .acc (.read 0xA0#8)
  | .wrReservedA0 data => .acc (.write 0xA0#8 data)
  | .rdReservedA4 => .acc (.read 0xA4#8)
  | .wrReservedA4 data => .acc (.write 0xA4#8 data)
  | .rdReservedA8 => .acc (.read 0xA8#8)
  | .wrReservedA8 data => .acc (.write 0xA8#8 data)
  | .rdReservedAC => .acc (.read 0xAC#8)
  | .wrReservedAC data => .acc (.write 0xAC#8 data)
  | .rdReservedB0 => .acc (.read 0xB0#8)
  | .wrReservedB0 data => .acc (.write 0xB0#8 data)
  | .rdReservedB4 => .acc (.read 0xB4#8)
  | .wrReservedB4 data => .acc (.write 0xB4#8 data)
  | .rdReservedB8 => .acc (.read 0xB8#8)
  | .wrReservedB8 data => .acc (.write 0xB8#8 data)
  | .rdReservedBC => .acc (.read 0xBC#8)
  | .wrReservedBC data => .acc (.write 0xBC#8 data)
  | .rdReservedC0 => .acc (.read 0xC0#8)
  | .wrReservedC0 data => .acc (.write 0xC0#8 data)
  | .rdReservedC4 => .acc (.read 0xC4#8)
  | .wrReservedC4 data => .acc (.write 0xC4#8 data)
  | .rdReservedC8 => .acc (.read 0xC8#8)
  | .wrReservedC8 data => .acc (.write 0xC8#8 data)
  | .rdReservedCC => .acc (.read 0xCC#8)
  | .wrReservedCC data => .acc (.write 0xCC#8 data)
  | .rdReservedD0 => .acc (.read 0xD0#8)
  | .wrReservedD0 data => .acc (.write 0xD0#8 data)
  | .rdReservedD4 => .acc (.read 0xD4#8)
  | .wrReservedD4 data => .acc (.write 0xD4#8 data)
  | .rdReservedD8 => .acc (.read 0xD8#8)
  | .wrReservedD8 data => .acc (.write 0xD8#8 data)
  | .rdReservedDC => .acc (.read 0xDC#8)
  | .wrReservedDC data => .acc (.write 0xDC#8 data)
  | .rdReservedE0 => .acc (.read 0xE0#8)
  | .wrReservedE0 data => .acc (.write 0xE0#8 data)
  | .rdReservedE4 => .acc (.read 0xE4#8)
  | .wrReservedE4 data => .acc (.write 0xE4#8 data)
  | .rdReservedE8 => .acc (.read 0xE8#8)
  | .wrReservedE8 data => .acc (.write 0xE8#8 data)
  | .rdReservedEC => .acc (.read 0xEC#8)
  | .wrReservedEC data => .acc (.write 0xEC#8 data)
  | .rdReservedF0 => .acc (.read 0xF0#8)
  | .wrReservedF0 data => .acc (.write 0xF0#8 data)
  | .rdReservedF4 => .acc (.read 0xF4#8)
  | .wrReservedF4 data => .acc (.write 0xF4#8 data)
  | .rdReservedF8 => .acc (.read 0xF8#8)
  | .wrReservedF8 data => .acc (.write 0xF8#8 data)
  | .rdReservedFC => .acc (.read 0xFC#8)
  | .wrReservedFC data => .acc (.write 0xFC#8 data)
  | .rdMisaligned1 o => .acc (.read (offOf o 1#2))
  | .rdMisaligned2 o => .acc (.read (offOf o 2#2))
  | .rdMisaligned3 o => .acc (.read (offOf o 3#2))
  | .wrMisaligned1 o data => .acc (.write (offOf o 1#2) data)
  | .wrMisaligned2 o data => .acc (.write (offOf o 2#2) data)
  | .wrMisaligned3 o data => .acc (.write (offOf o 3#2) data)
  | .fbSetup => .cmd 0x00000001#32
  | .fbWrite => .cmd 0x00000002#32
  | .fbRead => .cmd 0x00000003#32
  | .fbFill => .cmd 0x00000004#32
  | .generate => .cmd 0x00000010#32
  | .illegalCommand hi opc => .cmd (hi ++ opc)
  | .reservedCommand opc => .cmd (0#24 ++ opc)

/-! ## Descriptors and the bits of the opcode table -/

/-- The descriptor of an access: W, then OFF (30_encoding.md R80). -/
def Access.descriptor : Access → Descriptor
  | .read off => 0#1 ++ off
  | .write off _ => 1#1 ++ off

/-- The access that a descriptor and the DATA lines make; a read carries no DATA. -/
def Access.ofDescriptor (d : Descriptor) (data : Word) : Access :=
  if d.getLsbD 8 then .write (d.setWidth 8) data else .read (d.setWidth 8)

/-- OFF of the CMD register (30_encoding.md R82). -/
def cmdOffset : Offset := 0x08#8

/-- The access that presents an encoded form to the register port: a command word is the DATA of a write to CMD
(30_encoding.md R83). -/
def Encoding.access : Encoding → Access
  | .acc a => a
  | .cmd w => .write cmdOffset w

/-- An encoded form from the bits of spec/opcode_table.json (log entry 12). A row of format ACC has 9 bits, 16 in
whole bytes: the descriptor, with DATA zero. A row of format CMD has 32: the command word. An ACC row may also be
given whole, in 48 bits: the descriptor in bits 15:0 and DATA in bits 47:16. -/
def encodingOfBits (nbits w : Nat) : Except DecodeReject Encoding :=
  if nbits ≤ 16 then
    if w < 512 then .ok (.acc (.ofDescriptor (BitVec.ofNat 9 w) 0#32)) else .error .descriptorTooWide
  else if nbits ≤ 32 then
    if w < 4294967296 then .ok (.cmd (BitVec.ofNat 32 w)) else .error .lengthUnknown
  else if nbits ≤ 48 then
    if w % 65536 < 512 then .ok (.acc (.ofDescriptor (BitVec.ofNat 9 (w % 65536)) (BitVec.ofNat 32 (w / 65536))))
    else .error .descriptorTooWide
  else .error .lengthUnknown

/-- The instruction the decoder reads from a row's bits. -/
def decodeTableWord (nbits w : Nat) : Option Instr :=
  match encodingOfBits nbits w with
  | .ok e =>
    match decode e with
    | .ok i => some i
    | .error _ => none
  | .error _ => none

/-! ## Assembler lines and pseudo-instructions (30_encoding.md R94, R95) -/

/-- The offset of each register (30_encoding.md R82). -/
def RegName.offset : RegName → Offset
  | .id => 0x00#8
  | .status => 0x04#8
  | .cmd => 0x08#8
  | .arg0 => 0x0C#8
  | .arg1 => 0x10#8
  | .rdata => 0x14#8
  | .outLen => 0x18#8
  | .cfgWidth => 0x20#8
  | .cfgHeight => 0x24#8
  | .cfgModes => 0x28#8
  | .cfgScan => 0x2C#8
  | .cfgBitord => 0x30#8
  | .cfgRowOffset => 0x34#8
  | .cfgColOffset => 0x38#8
  | .fbWidth => 0x40#8
  | .fbHeight => 0x44#8
  | .fbMode => 0x48#8

/-- The offset a line names. -/
def AsmPlace.offset : AsmPlace → Offset
  | .reg r => r.offset
  | .off o => o

/-- The access a line stands for (30_encoding.md R94). -/
def AsmLine.access : AsmLine → Access
  | .rd p => .read p.offset
  | .wr p v => .write p.offset v

/-- The lines a pseudo-instruction stands for, performed in order (30_encoding.md R95). -/
def Pseudo.lines : Pseudo → List AsmLine
  | .setup w h m => [.wr (.reg .arg0) (h ++ w), .wr (.reg .arg1) m, .wr (.reg .cmd) 0x01#32]
  | .pix x y p => [.wr (.reg .arg0) (y ++ x), .wr (.reg .arg1) p, .wr (.reg .cmd) 0x02#32]
  | .peek x y => [.wr (.reg .arg0) (y ++ x), .wr (.reg .cmd) 0x03#32, .rd (.reg .rdata)]
  | .fill p => [.wr (.reg .arg1) p, .wr (.reg .cmd) 0x04#32]
  | .gen => [.wr (.reg .cmd) 0x10#32]
  | .check => [.rd (.reg .status)]

/-- The accesses a pseudo-instruction expands to. -/
def Pseudo.expand (p : Pseudo) : List Access := p.lines.map AsmLine.access

end Sys2Proof
end

