-- ==== Sys2Proof/Machine/State.lean ====
section
/-! DEFINITION. The state of the DDM core: every register of 10_state.md, the framebuffer, the output stream, the
implementation parameters, and the model's record of its port. Plain data throughout. -/

namespace Sys2Proof.Machine

/-- The colour modes, in the order of their codes 0 to 4 (30_encoding.md R86). -/
inductive ColorMode where
  | mono
  | gray8
  | rgb565
  | rgb888
  | rgba8888
deriving DecidableEq, Repr

/-- The two responses of the register port (30_encoding.md R81). -/
inductive Resp where
  | okay
  | error
deriving DecidableEq, Repr

/-- What the completion of one access tells the host: the response and, for a read, the data (30_encoding.md R81). -/
structure Response where
  resp : Resp
  rdata : Option Word
deriving DecidableEq, Repr

/-- What the outside can present to the core: one register access (10_state.md R30), or a pulse of the reset input
(70_reset_and_hazards.md R270). -/
inductive Input where
  | access (a : Access)
  | reset
deriving DecidableEq, Repr

/-- The framebuffer's storage: (address, byte) cells, addresses strictly rising, no cell holding the zero byte that
an unlisted address reads as (log entries 5 and 6). -/
abbrev Memory := List Host.Cell

/-- The canonical form of `Memory`. -/
abbrev Memory.wf (m : Memory) : Prop :=
  m.Pairwise (fun c d => c.1 < d.1) ∧ ∀ c ∈ m, c.2 ≠ 0#8

/-- The architectural state of 10_state.md R30, the parameters of 00_scope.md R9, and the model's record of the port.
ID and CMD hold no changeable state (R31, R33): their reads are hard-wired in `regValue`. -/
structure State where
  /-- STATUS.RESULT, bits 7:0 (R32). -/
  result : BitVec 8
  /-- STATUS.FATAL, bit 8, sticky (R32). -/
  fatal : Bool
  /-- ARG0 (R34). -/
  arg0 : Word
  /-- ARG1 (R35). -/
  arg1 : Word
  /-- RDATA (R36). -/
  rdata : Word
  /-- OUT_LEN (R37). -/
  outLen : Word
  /-- CFG_WIDTH (R38). -/
  cfgWidth : Word
  /-- CFG_HEIGHT (R39). -/
  cfgHeight : Word
  /-- CFG_MODES (R40). -/
  cfgModes : Word
  /-- CFG_SCAN (R41), held whole: a code without a strategy is fatal to GENERATE (44_modulator.md R212). -/
  cfgScan : Word
  /-- CFG_BITORD (R42), held whole for the same reason. -/
  cfgBitord : Word
  /-- CFG_ROW_OFFSET (R43). -/
  cfgRowOffset : Word
  /-- CFG_COL_OFFSET (R44). -/
  cfgColOffset : Word
  /-- FB_WIDTH, bits 15:0 (R45). -/
  fbWidth : BitVec 16
  /-- FB_HEIGHT, bits 15:0 (R46). -/
  fbHeight : BitVec 16
  /-- FB_MODE (R47): exactly one colour mode (DEDUCED, log entry 9). -/
  fbMode : ColorMode
  /-- The framebuffer contents (R48). -/
  fb : Memory
  /-- The output stream: the frames, oldest first (R49). -/
  out : List (List Byte)
  /-- The implementation parameters (00_scope.md R9); no step changes them (log entry 7). -/
  params : Params
  /-- The model's own: the events the outside still has to present, oldest first (log entry 1). -/
  inputs : List Input
  /-- The model's own: the responses of the completed accesses, oldest first (log entry 2). -/
  responses : List Response
deriving DecidableEq, Repr

/-- Why a step faults. Both are the `model_fault` of 60_exceptions.md R249: not a hardware error, and unreachable,
because a stored mono pixel is one bit wide (20_memory.md R63). -/
inductive Fault where
  /-- Raised by `encode8` for an input that is neither 0 nor 1 (43_bit_coder.md R193). Safe: the model stops. -/
  | modelFaultInvalidBitValue
  /-- Raised by `encode8` for a group that is not 8 long and by `padTo8` for one that is longer (43_bit_coder.md
  R193, R194). Safe: the model stops. -/
  | modelFaultArityError
deriving DecidableEq, Repr

/-- Why a step is refused. -/
inductive Refusal where
  /-- The instruction has no meaning yet; raised by an arm of `exec` only. Safe: the model stops. None is left. -/
  | notModelled (mnemonic : String)
  /-- The access decodes to no instruction; raised by the step. Safe: the model stops. No access does so: every
  encoding has a row (30_encoding.md R91). -/
  | undecodable (why : DecodeReject)
deriving DecidableEq, Repr

/-- The outcome of a step or of one instruction. -/
abbrev StepResult := Host.Outcome State Fault Refusal

/-- The state after reset of an implementation with parameters p: every value of 70_reset_and_hazards.md R271. -/
def State.resetWith (p : Params) : State where
  result := 0#8
  fatal := false
  arg0 := 0#32
  arg1 := 0#32
  rdata := 0#32
  outLen := 0#32
  cfgWidth := 1#32
  cfgHeight := 1#32
  cfgModes := 1#32
  cfgScan := 0#32
  cfgBitord := 0#32
  cfgRowOffset := 0#32
  cfgColOffset := 0#32
  fbWidth := 0#16
  fbHeight := 0#16
  fbMode := .mono
  fb := []
  out := []
  params := p
  inputs := []
  responses := []

/-- The machine right after reset (70_reset_and_hazards.md R271), with nothing presented to it yet. -/
def State.reset : State := State.resetWith Config.params

end Sys2Proof.Machine
end

