-- ==== Sys2Proof/Machine/Flags.lean ====
section
/-! DEFINITION. The flags of the DDM core: STATUS.RESULT with its error codes and STATUS.FATAL (10_state.md R32, R52;
60_exceptions.md R241). No other flag or condition code exists. -/

namespace Sys2Proof.Machine

/-- The errors of 60_exceptions.md R241. ShapeMismatch and ModeMismatch are raised by no access (R242); the two
bit-coder errors are model faults and never reach STATUS (R249). -/
inductive ErrorCode where
  | shapeMismatch
  | typeMismatch
  | rangeError
  | outOfRange
  | modeMismatch
  | resolutionMismatch
  | unsupportedMode
  | invalidGeometry
  | invalidBitValue
  | arityError
  | unmappedStrategy
  | accessError
  | illegalCommand
deriving DecidableEq, Repr

/-- The code of an error in STATUS.RESULT (60_exceptions.md R241). -/
def ErrorCode.code : ErrorCode → BitVec 8
  | .shapeMismatch => 1#8
  | .typeMismatch => 2#8
  | .rangeError => 3#8
  | .outOfRange => 4#8
  | .modeMismatch => 5#8
  | .resolutionMismatch => 6#8
  | .unsupportedMode => 7#8
  | .invalidGeometry => 8#8
  | .invalidBitValue => 9#8
  | .arityError => 10#8
  | .unmappedStrategy => 11#8
  | .accessError => 12#8
  | .illegalCommand => 13#8

/-- The code of OK (60_exceptions.md R241). -/
def resultOk : BitVec 8 := 0#8

/-- STATUS as a read returns it: RESULT in bits 7:0, FATAL in bit 8, zero above (10_state.md R32; 40_config.md R114). -/
def statusWord (s : State) : Word := (BitVec.ofBool s.fatal ++ s.result).setWidth 32

end Sys2Proof.Machine
end

