-- ==== Sys2Proof/Machine/Operands.lean ====
section
/-! DEFINITION. Operands: the fields of ARG0 and ARG1 (30_encoding.md R85), the reading of setter data (R90), the
codes of modes, scan directions and bit orders (R86, R87, R89, R96), the pixel word (R88; 41_framebuffer.md R145 to
R147), and the value a read of each register returns (40_config.md R114). -/

namespace Sys2Proof.Machine

/-! ## Argument registers and setter data -/

/-- ARG0[15:0]: x, or the width (30_encoding.md R85). -/
def argLow (w : Word) : BitVec 16 := w.extractLsb' 0 16

/-- ARG0[31:16]: y, or the height (30_encoding.md R85). -/
def argHigh (w : Word) : BitVec 16 := w.extractLsb' 16 16

/-- `sint32`: a word read as two's complement (00_scope.md R12; 30_encoding.md R90). -/
def sint32 (w : Word) : Int := w.toInt

/-! ## Codes -/

/-- The code of a colour mode (30_encoding.md R86). -/
def ColorMode.code : ColorMode → Nat
  | .mono => 0
  | .gray8 => 1
  | .rgb565 => 2
  | .rgb888 => 3
  | .rgba8888 => 4

/-- The mode a code names, if it names one (30_encoding.md R86): any value above 4 is reserved. -/
def ColorMode.ofCode (w : Word) : Option ColorMode :=
  if w = 0#32 then some .mono
  else if w = 1#32 then some .gray8
  else if w = 2#32 then some .rgb565
  else if w = 3#32 then some .rgb888
  else if w = 4#32 then some .rgba8888
  else none

/-- Membership of a mode in the mask CFG_MODES (30_encoding.md R96). -/
def modeSupported (mask : Word) (m : ColorMode) : Bool := mask.getLsbD m.code

/-- The scan-order strategies (42_scan_order.md R172 to R177). -/
inductive ScanOrder where
  | rowMajor
  | rowMajorReversed
  | columnMajor
  | columnMajorReversed
  | pageColumn
  | pageColumnReversed
deriving DecidableEq, Repr

/-- The table of 30_encoding.md R87: the strategy of a CFG_SCAN code, if it has one. -/
def ScanOrder.ofCode (w : Word) : Option ScanOrder :=
  if w = 0#32 then some .rowMajor
  else if w = 1#32 then some .rowMajorReversed
  else if w = 2#32 then some .columnMajor
  else if w = 3#32 then some .columnMajorReversed
  else if w = 4#32 then some .pageColumn
  else if w = 5#32 then some .pageColumnReversed
  else none

/-- `IsPage(d)` on the code (42_scan_order.md R171). -/
def isPage (w : Word) : Bool := w == 4#32 || w == 5#32

/-- The bit coders (43_bit_coder.md R190). -/
inductive Coder where
  | msb
  | lsb
deriving DecidableEq, Repr

/-- The table of 30_encoding.md R89: the coder of a CFG_BITORD code, if it has one. -/
def Coder.ofCode (w : Word) : Option Coder :=
  if w = 0#32 then some .msb
  else if w = 1#32 then some .lsb
  else none

/-! ## Pixel words -/

/-- The number of channels of a mode (20_memory.md R63). -/
def ColorMode.channels : ColorMode → Nat
  | .mono => 1
  | .gray8 => 1
  | .rgb565 => 1
  | .rgb888 => 3
  | .rgba8888 => 4

/-- The width in bits of a mode's elements (20_memory.md R63). -/
def ColorMode.elemWidth : ColorMode → Nat
  | .mono => 1
  | .gray8 => 8
  | .rgb565 => 16
  | .rgb888 => 8
  | .rgba8888 => 8

/-- ValidPixel (41_framebuffer.md R145): no bit set above the mode's used bits. -/
def validPixel (m : ColorMode) (p : Word) : Bool :=
  match m with
  | .mono => p.toNat ≤ 0x1
  | .gray8 => p.toNat ≤ 0xFF
  | .rgb565 => p.toNat ≤ 0xFFFF
  | .rgb888 => p.toNat ≤ 0xFFFFFF
  | .rgba8888 => true

/-- ZeroPixel (41_framebuffer.md R146): the zero word in every mode. -/
def zeroPixel (_ : ColorMode) : Word := 0#32

/-- Chan (41_framebuffer.md R147): the ordered elements of a pixel, each zero-extended to the widest element. -/
def chan (m : ColorMode) (p : Word) : List (BitVec 16) :=
  match m with
  | .mono => [(p.extractLsb' 0 1).setWidth 16]
  | .gray8 => [(p.extractLsb' 0 8).setWidth 16]
  | .rgb565 => [p.extractLsb' 0 16]
  | .rgb888 => [(p.extractLsb' 16 8).setWidth 16, (p.extractLsb' 8 8).setWidth 16, (p.extractLsb' 0 8).setWidth 16]
  | .rgba8888 =>
    [(p.extractLsb' 24 8).setWidth 16, (p.extractLsb' 16 8).setWidth 16, (p.extractLsb' 8 8).setWidth 16,
      (p.extractLsb' 0 8).setWidth 16]

/-! ## Registers -/

/-- The value a read returns (40_config.md R114). ID is a constant and CMD reads as zero (10_state.md R31, R33); the
16-bit descriptor fields and the mode code are zero-extended. -/
def regValue (r : RegName) (s : State) : Word :=
  match r with
  | .id => Config.idValue
  | .status => statusWord s
  | .cmd => 0#32
  | .arg0 => s.arg0
  | .arg1 => s.arg1
  | .rdata => s.rdata
  | .outLen => s.outLen
  | .cfgWidth => s.cfgWidth
  | .cfgHeight => s.cfgHeight
  | .cfgModes => s.cfgModes
  | .cfgScan => s.cfgScan
  | .cfgBitord => s.cfgBitord
  | .cfgRowOffset => s.cfgRowOffset
  | .cfgColOffset => s.cfgColOffset
  | .fbWidth => s.fbWidth.setWidth 32
  | .fbHeight => s.fbHeight.setWidth 32
  | .fbMode => BitVec.ofNat 32 s.fbMode.code

end Sys2Proof.Machine
end

