-- ==== Sys2Proof/Machine/Ops.lean ====
section
/-! DEFINITION. The named operations: the framebuffer's storage, its pixels, the completion of an access (the
responses of 30_encoding.md R81), raising an error, the halt, and reset. -/

namespace Sys2Proof.Machine

/-! ## The framebuffer's storage, byte by byte -/

/-- The byte at an address. An unlisted address reads as zero: every pixel is the zero pixel from FB_SETUP on
(41_framebuffer.md R141, R146; DEDUCED, log entry 6). -/
def Memory.read : Memory → Nat → Byte
  | [], _ => 0#8
  | (b, v) :: m, a => if a = b then v else if a < b then 0#8 else Memory.read m a

/-- One byte stored, the canonical form kept: a zero byte is not listed. -/
def Memory.write : Memory → Nat → Byte → Memory
  | [], a, v => if v = 0#8 then [] else [(a, v)]
  | (b, u) :: m, a, v =>
    if a < b then (if v = 0#8 then (b, u) :: m else (a, v) :: (b, u) :: m)
    else if a = b then (if v = 0#8 then m else (a, v) :: m)
    else (b, u) :: Memory.write m a v

/-- Bytes stored at an address and those after it. -/
def Memory.writeBytes : Memory → Nat → List Byte → Memory
  | m, _, [] => m
  | m, a, v :: vs => Memory.writeBytes (m.write a v) (a + 1) vs

/-! ## Pixels (20_memory.md R62, R63) -/

/-- The address of byte c of pixel (x, y). The storage index order is [y][x] (20_memory.md R62); the pitch of 65536
pixels of 4 bytes is the model's own and cannot be observed (DESIGN CHOICE, log entry 5). -/
def cellAddr (x y c : Nat) : Nat := (y * 65536 + x) * 4 + c

/-- The bytes that hold a mode's pixel: one for each 1-bit or 8-bit element, two for the 16-bit one. -/
def ColorMode.cells : ColorMode → Nat
  | .mono => 1
  | .gray8 => 1
  | .rgb565 => 2
  | .rgb888 => 3
  | .rgba8888 => 4

/-- The bytes of one element: the 16-bit element of RGB565 high byte first (DESIGN CHOICE, log entry 5). -/
def elemBytes (m : ColorMode) (e : BitVec 16) : List Byte :=
  match m with
  | .rgb565 => [e.extractLsb' 8 8, e.extractLsb' 0 8]
  | _ => [e.extractLsb' 0 8]

/-- The bytes of a pixel: its channels in order (20_memory.md R63; 41_framebuffer.md R140, R147). -/
def pixelBytes (m : ColorMode) (p : Word) : List Byte := (chan m p).flatMap (elemBytes m)

/-- FbWrite (20_memory.md R62): the pixel's elements replaced by the channels of p. -/
def fbWrite (mem : Memory) (m : ColorMode) (x y : Nat) (p : Word) : Memory :=
  mem.writeBytes (cellAddr x y 0) (pixelBytes m p)

/-- FbRead (20_memory.md R62; 41_framebuffer.md R140): the pixel word rebuilt from the stored elements, every unused
bit zero. An element has exactly its mode's width (20_memory.md R63), so a mono pixel is bit 0 of its byte. -/
def fbRead (mem : Memory) (m : ColorMode) (x y : Nat) : Word :=
  match m with
  | .mono => ((mem.read (cellAddr x y 0)).extractLsb' 0 1).setWidth 32
  | .gray8 => (mem.read (cellAddr x y 0)).setWidth 32
  | .rgb565 => (mem.read (cellAddr x y 0) ++ mem.read (cellAddr x y 1)).setWidth 32
  | .rgb888 =>
    (mem.read (cellAddr x y 0) ++ mem.read (cellAddr x y 1) ++ mem.read (cellAddr x y 2)).setWidth 32
  | .rgba8888 =>
    mem.read (cellAddr x y 0) ++ mem.read (cellAddr x y 1) ++ mem.read (cellAddr x y 2) ++ mem.read (cellAddr x y 3)

/-- Every coordinate of a w by h rectangle, rows from the top, each from the left. -/
def allCoords (w h : Nat) : List (Nat × Nat) :=
  (List.range h).flatMap fun y => (List.range w).map fun x => (x, y)

/-- Whether an address is a byte of a pixel of the w by h framebuffer of mode m. -/
def inFrame (m : ColorMode) (w h a : Nat) : Bool :=
  a / 4 % 65536 < w && a / 4 / 65536 < h && a % 4 < m.cells

/-- The fill of 41_framebuffer.md R144: p at every pixel of a w by h framebuffer. What the rectangle held is dropped
first and the pixels are stored from the last to the first, which leaves the contents the loop of R144 leaves and
keeps each insertion at the head of the list. -/
def fbFill (mem : Memory) (m : ColorMode) (w h : Nat) (p : Word) : Memory :=
  (allCoords w h).foldr (fun c acc => fbWrite acc m c.1 c.2 p) (mem.filter fun cell => !inFrame m w h cell.1)

/-- The storage FB_SETUP leaves (41_framebuffer.md R141): the old contents discarded and every pixel the zero pixel,
which is what an unlisted byte reads as. -/
def fbCleared : Memory := []

/-! ## Completing an access (30_encoding.md R81; 40_config.md R110) -/

/-- The response of a write that succeeded. -/
def writeOkay : Response := { resp := .okay, rdata := none }

/-- The response of a write that was refused or failed. -/
def writeError : Response := { resp := .error, rdata := none }

/-- An access completes with a response: the model's record of it grows by one. -/
def respond (r : Response) (s : State) : State := { s with responses := s.responses ++ [r] }

/-- A read that returns v (40_config.md R114). It changes no architectural state (20_memory.md R66). -/
def readDone (v : Word) (s : State) : State := respond { resp := .okay, rdata := some v } s

/-- A refused read: rdata 0, response ERROR, no state change (40_config.md R113). -/
def readRefused (s : State) : State := respond { resp := .error, rdata := some 0#32 } s

/-- A storage write that completed: OKAY, STATUS.RESULT not written (40_config.md R111, R115, R116). -/
def storeDone (s : State) : State := respond writeOkay s

/-- `Ok()` of an operation write (40_config.md R110): RESULT becomes 0, response OKAY. -/
def complete (s : State) : State := respond writeOkay { s with result := resultOk }

/-- `raise E` (40_config.md R110; 60_exceptions.md R243, R245): RESULT becomes the code of E, response ERROR, and
nothing else changes: no state is saved, no mode changes, control goes nowhere. There is no return from it (R246):
the next access is accepted as usual. -/
def raise (e : ErrorCode) (s : State) : State := respond writeError { s with result := e.code }

/-- A write refused by a halted core (40_config.md R112): response ERROR, no state change at all. -/
def refuseHalted (s : State) : State := respond writeError s

/-- The gate of every write (40_config.md R112; 60_exceptions.md R244): while FATAL is set the write is refused,
otherwise it runs. -/
def unlessHalted (s : State) (run : StepResult) : StepResult :=
  if s.fatal then .next (refuseHalted s) else run

/-- `fail E` of GENERATE (44_modulator.md R220): as `raise`, and OUT_LEN becomes 0. -/
def failGenerate (e : ErrorCode) (s : State) : State := raise e { s with outLen := 0#32 }

/-- `fatal UnmappedStrategy` (44_modulator.md R220; 60_exceptions.md R247): RESULT 11, OUT_LEN 0, FATAL set. -/
def fatalHalt (s : State) : State := failGenerate .unmappedStrategy { s with fatal := true }

/-- `Emit(frame)`, OUT_LEN and `Ok()` (44_modulator.md R219; 20_memory.md R64): one frame appended, OUT_LEN its
length modulo 2^32 (44_modulator.md R221). -/
def commitFrame (frame : List Byte) (s : State) : State :=
  complete { s with out := s.out ++ [frame], outLen := BitVec.ofNat 32 frame.length }

/-- The effect of the reset input (70_reset_and_hazards.md R270, R271): every piece of state takes its reset value.
The parameters are the machine's and stay; what the outside has still to present is not the core's and stays; the
record of responses starts anew with the run (log entry 4). -/
def applyReset (s : State) : State := { State.resetWith s.params with inputs := s.inputs }

end Sys2Proof.Machine
end

