-- ==== Sys2Proof/Machine/Framebuffer.lean ====
section
/-! DEFINITION. The framebuffer commands: 41_framebuffer.md R141 to R144. A command is a write to CMD, so a halted core
refuses it (40_config.md R112). -/

namespace Sys2Proof.Machine

/-- FB_SETUP (41_framebuffer.md R141): w = ARG0[15:0], h = ARG0[31:16], mode = ARG1. TypeMismatch for no mode, then
RangeError for the dimensions, then RangeError for the capacity; otherwise a new framebuffer of zero pixels. -/
def execFbSetup (s : State) : StepResult :=
  unlessHalted s <|
    match ColorMode.ofCode s.arg1 with
    | none => .next (raise .typeMismatch s)
    | some m =>
      if (argLow s.arg0).toNat < 1 ∨ (argLow s.arg0).toNat > s.params.maxWidth ∨
          (argHigh s.arg0).toNat < 1 ∨ (argHigh s.arg0).toNat > s.params.maxHeight then
        .next (raise .rangeError s)
      else if (argLow s.arg0).toNat * (argHigh s.arg0).toNat > s.params.fbMaxPixels then
        .next (raise .rangeError s)
      else
        .next (complete { s with
          fbWidth := argLow s.arg0, fbHeight := argHigh s.arg0, fbMode := m, fb := fbCleared })

/-- FB_WRITE (41_framebuffer.md R142): OutOfRange for the coordinate, then RangeError for the value, then FbWrite. -/
def execFbWrite (s : State) : StepResult :=
  unlessHalted s <|
    if argLow s.arg0 ≥ s.fbWidth ∨ argHigh s.arg0 ≥ s.fbHeight then .next (raise .outOfRange s)
    else if !validPixel s.fbMode s.arg1 then .next (raise .rangeError s)
    else
      .next (complete { s with
        fb := fbWrite s.fb s.fbMode (argLow s.arg0).toNat (argHigh s.arg0).toNat s.arg1 })

/-- FB_READ (41_framebuffer.md R143): OutOfRange for the coordinate, otherwise RDATA is the pixel word. -/
def execFbRead (s : State) : StepResult :=
  unlessHalted s <|
    if argLow s.arg0 ≥ s.fbWidth ∨ argHigh s.arg0 ≥ s.fbHeight then .next (raise .outOfRange s)
    else
      .next (complete { s with
        rdata := fbRead s.fb s.fbMode (argLow s.arg0).toNat (argHigh s.arg0).toNat })

/-- FB_FILL (41_framebuffer.md R144): RangeError for the value, judged against FB_MODE also on the 0 x 0 framebuffer,
otherwise every pixel takes it, in one indivisible operation. -/
def execFbFill (s : State) : StepResult :=
  unlessHalted s <|
    if !validPixel s.fbMode s.arg1 then .next (raise .rangeError s)
    else
      .next (complete { s with
        fb := fbFill s.fb s.fbMode s.fbWidth.toNat s.fbHeight.toNat s.arg1 })

end Sys2Proof.Machine
end

