-- ==== Sys2Proof/Machine/BitCoder.lean ====
section
/-! DEFINITION. The bit-packer and bit reorderer: 43_bit_coder.md R190 to R198. Every function is pure. -/

namespace Sys2Proof.Machine

/-- The weighted sum of the bits of a group: `bits[i] << (7 - i)` under MSB, `bits[i] << i` under LSB
(43_bit_coder.md R191, R192). -/
def packBits (c : Coder) (bits : List Nat) : Nat :=
  (bits.zipIdx.map fun b => b.1 <<< (match c with | .msb => 7 - b.2 | .lsb => b.2)).sum

/-- `encode_8pixels` (43_bit_coder.md R191 to R193): a model fault for a group that is not 8 long, then for a value
that is neither 0 nor 1. -/
def encode8 (c : Coder) (bits : List Nat) : Except Fault Byte :=
  if bits.length ≠ 8 then .error .modelFaultArityError
  else if bits.any fun b => decide (1 < b) then .error .modelFaultInvalidBitValue
  else .ok (BitVec.ofNat 8 (packBits c bits))

/-- `pad_to_8` (43_bit_coder.md R194): zeros on the right; a model fault for more than 8. -/
def padTo8 (g : List Nat) : Except Fault (List Nat) :=
  if g.length > 8 then .error .modelFaultArityError
  else .ok (g ++ List.replicate (8 - g.length) 0)

/-- `decode_byte` (43_bit_coder.md R195): the bits of a byte, bit 7 first. -/
def decodeByte (b : Byte) : List Nat := (List.range 8).map fun i => (b.getLsbD (7 - i)).toNat

/-- `reencode_byte` (43_bit_coder.md R196). -/
def reencodeByte (c : Coder) (b : Byte) : Except Fault Byte := encode8 c (decodeByte b)

/-- `rev8` (43_bit_coder.md R197): the bits of a byte in reverse order. -/
def rev8 (b : Byte) : Byte :=
  BitVec.ofNat 8 ((List.range 8).map fun i => (b.getLsbD i).toNat <<< (7 - i)).sum

end Sys2Proof.Machine
end

