-- ==== Sys2Proof/Machine/Scan.lean ====
section
/-! DEFINITION. The framebuffer reader: the six scan orders as the nested loops of 42_scan_order.md R172 to R177, their
closed forms, and the read in scan order (R178). -/

namespace Sys2Proof.Machine

/-- `ScanSeq(d, W, H)` (42_scan_order.md R170, R172 to R177): the coordinates (x, y) in the order of the rule's loops.
A page-based order is formed only when H mod 8 = 0 (R171); GENERATE has checked it. -/
def scanSeq (d : ScanOrder) (w h : Nat) : List (Nat × Nat) :=
  match d with
  | .rowMajor => (List.range h).flatMap fun y => (List.range w).map fun x => (x, y)
  | .rowMajorReversed => (List.range h).flatMap fun y => (List.range w).reverse.map fun x => (x, y)
  | .columnMajor => (List.range w).flatMap fun x => (List.range h).map fun y => (x, y)
  | .columnMajorReversed => (List.range w).flatMap fun x => (List.range h).reverse.map fun y => (x, y)
  | .pageColumn =>
    (List.range (h / 8)).flatMap fun page =>
      (List.range w).flatMap fun x => (List.range 8).map fun yo => (x, page * 8 + yo)
  | .pageColumnReversed =>
    (List.range (h / 8)).flatMap fun page =>
      (List.range w).flatMap fun x => (List.range 8).reverse.map fun yo => (x, page * 8 + yo)

/-- The closed form of position k (42_scan_order.md R172 to R177). -/
def scanCoord (d : ScanOrder) (w h k : Nat) : Nat × Nat :=
  match d with
  | .rowMajor => (k % w, k / w)
  | .rowMajorReversed => (w - 1 - k % w, k / w)
  | .columnMajor => (k / h, k % h)
  | .columnMajorReversed => (k / h, h - 1 - k % h)
  | .pageColumn => (k % (8 * w) / 8, 8 * (k / (8 * w)) + k % (8 * w) % 8)
  | .pageColumnReversed => (k % (8 * w) / 8, 8 * (k / (8 * w)) + 7 - k % (8 * w) % 8)

/-- Whether a strategy is page-based (42_scan_order.md R171). -/
def ScanOrder.isPageBased : ScanOrder → Bool
  | .pageColumn => true
  | .pageColumnReversed => true
  | _ => false

/-- `ScanPix(d)` (42_scan_order.md R178): the pixel words in scan order, for W = CFG_WIDTH and H = CFG_HEIGHT. -/
def scanPix (d : ScanOrder) (s : State) : List Word :=
  (scanSeq d s.cfgWidth.toNat s.cfgHeight.toNat).map fun c => fbRead s.fb s.fbMode c.1 c.2

end Sys2Proof.Machine
end

