-- ==== Sys2Proof/Machine/Modulator.lean ====
section
/-! DEFINITION. The modulator: GENERATE with its validation, strategy resolution, emitters and commit
(44_modulator.md R210 to R223). -/

namespace Sys2Proof.Machine

/-- `ceil8` (00_scope.md R12). -/
def ceil8 (n : Nat) : Nat := (n + 7) / 8

/-! ## The emitters (44_modulator.md R214 to R218); px is the list of pixel words in scan order -/

/-- EmitMono (44_modulator.md R214): bit 0 of each pixel, in groups of 8, the last one padded, each encoded. -/
def emitMono (c : Coder) (px : List Word) : Except Fault (List Byte) :=
  (List.range (ceil8 px.length)).mapM fun j => do
    let g ← padTo8 (((px.drop (8 * j)).take 8).map fun p => (p.getLsbD 0).toNat)
    encode8 c g

/-- EmitGray (44_modulator.md R215): one byte for each pixel, never reordered. -/
def emitGray (px : List Word) : List Byte := px.map fun p => p.extractLsb' 0 8

/-- EmitRGB565 (44_modulator.md R216): high byte, then low byte, never reordered. -/
def emitRgb565 (px : List Word) : List Byte := px.flatMap fun p => [p.extractLsb' 8 8, p.extractLsb' 0 8]

/-- The channel bytes of each pixel, in order, each through `reencode_byte` (44_modulator.md R217, R218). -/
def emitChannels (c : Coder) (channelBytes : Word → List Byte) (px : List Word) : Except Fault (List Byte) :=
  (px.flatMap channelBytes).mapM (reencodeByte c)

/-- EmitRGB888 (44_modulator.md R217): R, G, B. -/
def emitRgb888 (c : Coder) (px : List Word) : Except Fault (List Byte) :=
  emitChannels c (fun p => [p.extractLsb' 16 8, p.extractLsb' 8 8, p.extractLsb' 0 8]) px

/-- EmitRGBA8888 (44_modulator.md R218): R, G, B, A. -/
def emitRgba8888 (c : Coder) (px : List Word) : Except Fault (List Byte) :=
  emitChannels c (fun p => [p.extractLsb' 24 8, p.extractLsb' 16 8, p.extractLsb' 8 8, p.extractLsb' 0 8]) px

/-- The per-mode emission table (44_modulator.md R213). -/
def emitFrame (m : ColorMode) (c : Coder) (px : List Word) : Except Fault (List Byte) :=
  match m with
  | .mono => emitMono c px
  | .gray8 => .ok (emitGray px)
  | .rgb565 => .ok (emitRgb565 px)
  | .rgb888 => emitRgb888 c px
  | .rgba8888 => emitRgba8888 c px

/-! ## The command -/

/-- Step 1 of GENERATE (44_modulator.md R211): the first check that fails, in the rule's order. -/
def validateGenerate (s : State) : Option ErrorCode :=
  if s.fbWidth.setWidth 32 ≠ s.cfgWidth ∨ s.fbHeight.setWidth 32 ≠ s.cfgHeight then some .resolutionMismatch
  else if !modeSupported s.cfgModes s.fbMode then some .unsupportedMode
  else if isPage s.cfgScan ∧ s.cfgHeight.toNat % 8 ≠ 0 then some .invalidGeometry
  else none

/-- Steps 2 to 4 of GENERATE (44_modulator.md R212, R213, R219): the scan order is resolved before the bit order, an
unmapped code is fatal, and otherwise one frame is emitted. -/
def modulate (s : State) : StepResult :=
  match ScanOrder.ofCode s.cfgScan with
  | none => .next (fatalHalt s)
  | some d =>
    match Coder.ofCode s.cfgBitord with
    | none => .next (fatalHalt s)
    | some c =>
      match emitFrame s.fbMode c (scanPix d s) with
      | .error f => .fault f
      | .ok frame => .next (commitFrame frame s)

/-- GENERATE (44_modulator.md R210). -/
def execGenerate (s : State) : StepResult :=
  unlessHalted s <|
    match validateGenerate s with
    | some e => .next (failGenerate e s)
    | none => modulate s

end Sys2Proof.Machine
end

