-- ==== Sys2Proof/Machine/Command.lean ====
section
/-! DEFINITION. Writes to CMD: the dispatch of 40_config.md R126 and the refused command words. -/

namespace Sys2Proof.Machine

/-- A command word with bits 31:8 not zero (40_config.md R126; 30_encoding.md R83, R91): IllegalCommand. -/
def execIllegalCommand (_hi : BitVec 24) (_opc : BitVec 8) (s : State) : StepResult :=
  unlessHalted s (.next (raise .illegalCommand s))

/-- A command word with an OPC that 30_encoding.md R84 does not list (40_config.md R126): IllegalCommand. -/
def execReservedCommand (_opc : BitVec 8) (s : State) : StepResult :=
  unlessHalted s (.next (raise .illegalCommand s))

/-- WR CMD (40_config.md R126): bits 31:8 first, then the case of OPC. CMD itself stores nothing (10_state.md R33). -/
def execWrCmd (data : Word) (s : State) : StepResult :=
  unlessHalted s <|
    if cmdHigh data ≠ 0#24 then .next (raise .illegalCommand s)
    else if cmdOpc data = 0x01#8 then execFbSetup s
    else if cmdOpc data = 0x02#8 then execFbWrite s
    else if cmdOpc data = 0x03#8 then execFbRead s
    else if cmdOpc data = 0x04#8 then execFbFill s
    else if cmdOpc data = 0x10#8 then execGenerate s
    else .next (raise .illegalCommand s)

end Sys2Proof.Machine
end

