-- ==== Sys2Proof/Machine/Reads.lean ====
section
/-! DEFINITION. Register reads: 40_config.md R114. A read returns the register's value with response OKAY and changes
no state (20_memory.md R66); it works while FATAL is set (R112). -/

namespace Sys2Proof.Machine

/-- The read of a register (40_config.md R114). -/
def readRegister (r : RegName) (s : State) : StepResult := .next (readDone (regValue r s) s)

/-- RD ID (40_config.md R114; 10_state.md R31). -/
def execRdId (s : State) : StepResult := readRegister .id s

/-- RD STATUS (40_config.md R114; 10_state.md R32). -/
def execRdStatus (s : State) : StepResult := readRegister .status s

/-- RD CMD (40_config.md R114; 10_state.md R33). -/
def execRdCmd (s : State) : StepResult := readRegister .cmd s

/-- RD ARG0 (40_config.md R114; 10_state.md R34). -/
def execRdArg0 (s : State) : StepResult := readRegister .arg0 s

/-- RD ARG1 (40_config.md R114; 10_state.md R35). -/
def execRdArg1 (s : State) : StepResult := readRegister .arg1 s

/-- RD RDATA (40_config.md R114; 10_state.md R36). -/
def execRdRdata (s : State) : StepResult := readRegister .rdata s

/-- RD OUT_LEN (40_config.md R114; 10_state.md R37). -/
def execRdOutLen (s : State) : StepResult := readRegister .outLen s

/-- RD CFG_WIDTH (40_config.md R114; 10_state.md R38). -/
def execRdCfgWidth (s : State) : StepResult := readRegister .cfgWidth s

/-- RD CFG_HEIGHT (40_config.md R114; 10_state.md R39). -/
def execRdCfgHeight (s : State) : StepResult := readRegister .cfgHeight s

/-- RD CFG_MODES (40_config.md R114; 10_state.md R40). -/
def execRdCfgModes (s : State) : StepResult := readRegister .cfgModes s

/-- RD CFG_SCAN (40_config.md R114; 10_state.md R41). -/
def execRdCfgScan (s : State) : StepResult := readRegister .cfgScan s

/-- RD CFG_BITORD (40_config.md R114; 10_state.md R42). -/
def execRdCfgBitord (s : State) : StepResult := readRegister .cfgBitord s

/-- RD CFG_ROW_OFFSET (40_config.md R114; 10_state.md R43). -/
def execRdCfgRowOffset (s : State) : StepResult := readRegister .cfgRowOffset s

/-- RD CFG_COL_OFFSET (40_config.md R114; 10_state.md R44). -/
def execRdCfgColOffset (s : State) : StepResult := readRegister .cfgColOffset s

/-- RD FB_WIDTH (40_config.md R114; 10_state.md R45). -/
def execRdFbWidth (s : State) : StepResult := readRegister .fbWidth s

/-- RD FB_HEIGHT (40_config.md R114; 10_state.md R46). -/
def execRdFbHeight (s : State) : StepResult := readRegister .fbHeight s

/-- RD FB_MODE (40_config.md R114; 10_state.md R47). -/
def execRdFbMode (s : State) : StepResult := readRegister .fbMode s

end Sys2Proof.Machine
end

