-- ==== Sys2Proof/Machine/Refused.lean ====
section
/-! DEFINITION. Refused accesses: reads and writes of reserved and misaligned offsets, and writes to read-only
registers (40_config.md R113, R125; 30_encoding.md R91). -/

namespace Sys2Proof.Machine

/-- RD of a refused offset (40_config.md R113): rdata 0, ERROR, no state change, also while FATAL is set. -/
def refusedRead (s : State) : StepResult := .next (readRefused s)

/-- WR of a refused offset (40_config.md R125): AccessError, whatever the DATA; while FATAL is set R112 applies
instead. -/
def refusedWrite (s : State) : StepResult := unlessHalted s (.next (raise .accessError s))

/-! ## Writes to read-only registers -/

/-- WR ID: refused (40_config.md R125). -/
def execWrIdReadOnly (_data : Word) (s : State) : StepResult := refusedWrite s

/-- WR STATUS: refused (40_config.md R125). -/
def execWrStatusReadOnly (_data : Word) (s : State) : StepResult := refusedWrite s

/-- WR RDATA: refused (40_config.md R125). -/
def execWrRdataReadOnly (_data : Word) (s : State) : StepResult := refusedWrite s

/-- WR OUT_LEN: refused (40_config.md R125). -/
def execWrOutLenReadOnly (_data : Word) (s : State) : StepResult := refusedWrite s

/-- WR FB_WIDTH: refused (40_config.md R125). -/
def execWrFbWidthReadOnly (_data : Word) (s : State) : StepResult := refusedWrite s

/-- WR FB_HEIGHT: refused (40_config.md R125). -/
def execWrFbHeightReadOnly (_data : Word) (s : State) : StepResult := refusedWrite s

/-- WR FB_MODE: refused (40_config.md R125). -/
def execWrFbModeReadOnly (_data : Word) (s : State) : StepResult := refusedWrite s

/-! ## Reserved offsets -/

/-- RD 0x1C, reserved (40_config.md R113). -/
def execRdReserved1C (s : State) : StepResult := refusedRead s

/-- WR 0x1C, reserved (40_config.md R125). -/
def execWrReserved1C (_data : Word) (s : State) : StepResult := refusedWrite s

/-- RD 0x3C, reserved (40_config.md R113). -/
def execRdReserved3C (s : State) : StepResult := refusedRead s

/-- WR 0x3C, reserved (40_config.md R125). -/
def execWrReserved3C (_data : Word) (s : State) : StepResult := refusedWrite s

/-- RD 0x4C, reserved (40_config.md R113). -/
def execRdReserved4C (s : State) : StepResult := refusedRead s

/-- WR 0x4C, reserved (40_config.md R125). -/
def execWrReserved4C (_data : Word) (s : State) : StepResult := refusedWrite s

/-- RD 0x50, reserved (40_config.md R113). -/
def execRdReserved50 (s : State) : StepResult := refusedRead s

/-- WR 0x50, reserved (40_config.md R125). -/
def execWrReserved50 (_data : Word) (s : State) : StepResult := refusedWrite s

/-- RD 0x54, reserved (40_config.md R113). -/
def execRdReserved54 (s : State) : StepResult := refusedRead s

/-- WR 0x54, reserved (40_config.md R125). -/
def execWrReserved54 (_data : Word) (s : State) : StepResult := refusedWrite s

/-- RD 0x58, reserved (40_config.md R113). -/
def execRdReserved58 (s : State) : StepResult := refusedRead s

/-- WR 0x58, reserved (40_config.md R125). -/
def execWrReserved58 (_data : Word) (s : State) : StepResult := refusedWrite s

/-- RD 0x5C, reserved (40_config.md R113). -/
def execRdReserved5C (s : State) : StepResult := refusedRead s

/-- WR 0x5C, reserved (40_config.md R125). -/
def execWrReserved5C (_data : Word) (s : State) : StepResult := refusedWrite s

/-- RD 0x60, reserved (40_config.md R113). -/
def execRdReserved60 (s : State) : StepResult := refusedRead s

/-- WR 0x60, reserved (40_config.md R125). -/
def execWrReserved60 (_data : Word) (s : State) : StepResult := refusedWrite s

/-- RD 0x64, reserved (40_config.md R113). -/
def execRdReserved64 (s : State) : StepResult := refusedRead s

/-- WR 0x64, reserved (40_config.md R125). -/
def execWrReserved64 (_data : Word) (s : State) : StepResult := refusedWrite s

/-- RD 0x68, reserved (40_config.md R113). -/
def execRdReserved68 (s : State) : StepResult := refusedRead s

/-- WR 0x68, reserved (40_config.md R125). -/
def execWrReserved68 (_data : Word) (s : State) : StepResult := refusedWrite s

/-- RD 0x6C, reserved (40_config.md R113). -/
def execRdReserved6C (s : State) : StepResult := refusedRead s

/-- WR 0x6C, reserved (40_config.md R125). -/
def execWrReserved6C (_data : Word) (s : State) : StepResult := refusedWrite s

/-- RD 0x70, reserved (40_config.md R113). -/
def execRdReserved70 (s : State) : StepResult := refusedRead s

/-- WR 0x70, reserved (40_config.md R125). -/
def execWrReserved70 (_data : Word) (s : State) : StepResult := refusedWrite s

/-- RD 0x74, reserved (40_config.md R113). -/
def execRdReserved74 (s : State) : StepResult := refusedRead s

/-- WR 0x74, reserved (40_config.md R125). -/
def execWrReserved74 (_data : Word) (s : State) : StepResult := refusedWrite s

/-- RD 0x78, reserved (40_config.md R113). -/
def execRdReserved78 (s : State) : StepResult := refusedRead s

/-- WR 0x78, reserved (40_config.md R125). -/
def execWrReserved78 (_data : Word) (s : State) : StepResult := refusedWrite s

/-- RD 0x7C, reserved (40_config.md R113). -/
def execRdReserved7C (s : State) : StepResult := refusedRead s

/-- WR 0x7C, reserved (40_config.md R125). -/
def execWrReserved7C (_data : Word) (s : State) : StepResult := refusedWrite s

/-- RD 0x80, reserved (40_config.md R113). -/
def execRdReserved80 (s : State) : StepResult := refusedRead s

/-- WR 0x80, reserved (40_config.md R125). -/
def execWrReserved80 (_data : Word) (s : State) : StepResult := refusedWrite s

/-- RD 0x84, reserved (40_config.md R113). -/
def execRdReserved84 (s : State) : StepResult := refusedRead s

/-- WR 0x84, reserved (40_config.md R125). -/
def execWrReserved84 (_data : Word) (s : State) : StepResult := refusedWrite s

/-- RD 0x88, reserved (40_config.md R113). -/
def execRdReserved88 (s : State) : StepResult := refusedRead s

/-- WR 0x88, reserved (40_config.md R125). -/
def execWrReserved88 (_data : Word) (s : State) : StepResult := refusedWrite s

/-- RD 0x8C, reserved (40_config.md R113). -/
def execRdReserved8C (s : State) : StepResult := refusedRead s

/-- WR 0x8C, reserved (40_config.md R125). -/
def execWrReserved8C (_data : Word) (s : State) : StepResult := refusedWrite s

/-- RD 0x90, reserved (40_config.md R113). -/
def execRdReserved90 (s : State) : StepResult := refusedRead s

/-- WR 0x90, reserved (40_config.md R125). -/
def execWrReserved90 (_data : Word) (s : State) : StepResult := refusedWrite s

/-- RD 0x94, reserved (40_config.md R113). -/
def execRdReserved94 (s : State) : StepResult := refusedRead s

/-- WR 0x94, reserved (40_config.md R125). -/
def execWrReserved94 (_data : Word) (s : State) : StepResult := refusedWrite s

/-- RD 0x98, reserved (40_config.md R113). -/
def execRdReserved98 (s : State) : StepResult := refusedRead s

/-- WR 0x98, reserved (40_config.md R125). -/
def execWrReserved98 (_data : Word) (s : State) : StepResult := refusedWrite s

/-- RD 0x9C, reserved (40_config.md R113). -/
def execRdReserved9C (s : State) : StepResult := refusedRead s

/-- WR 0x9C, reserved (40_config.md R125). -/
def execWrReserved9C (_data : Word) (s : State) : StepResult := refusedWrite s

/-- RD 0xA0, reserved (40_config.md R113). -/
def execRdReservedA0 (s : State) : StepResult := refusedRead s

/-- WR 0xA0, reserved (40_config.md R125). -/
def execWrReservedA0 (_data : Word) (s : State) : StepResult := refusedWrite s

/-- RD 0xA4, reserved (40_config.md R113). -/
def execRdReservedA4 (s : State) : StepResult := refusedRead s

/-- WR 0xA4, reserved (40_config.md R125). -/
def execWrReservedA4 (_data : Word) (s : State) : StepResult := refusedWrite s

/-- RD 0xA8, reserved (40_config.md R113). -/
def execRdReservedA8 (s : State) : StepResult := refusedRead s

/-- WR 0xA8, reserved (40_config.md R125). -/
def execWrReservedA8 (_data : Word) (s : State) : StepResult := refusedWrite s

/-- RD 0xAC, reserved (40_config.md R113). -/
def execRdReservedAC (s : State) : StepResult := refusedRead s

/-- WR 0xAC, reserved (40_config.md R125). -/
def execWrReservedAC (_data : Word) (s : State) : StepResult := refusedWrite s

/-- RD 0xB0, reserved (40_config.md R113). -/
def execRdReservedB0 (s : State) : StepResult := refusedRead s

/-- WR 0xB0, reserved (40_config.md R125). -/
def execWrReservedB0 (_data : Word) (s : State) : StepResult := refusedWrite s

/-- RD 0xB4, reserved (40_config.md R113). -/
def execRdReservedB4 (s : State) : StepResult := refusedRead s

/-- WR 0xB4, reserved (40_config.md R125). -/
def execWrReservedB4 (_data : Word) (s : State) : StepResult := refusedWrite s

/-- RD 0xB8, reserved (40_config.md R113). -/
def execRdReservedB8 (s : State) : StepResult := refusedRead s

/-- WR 0xB8, reserved (40_config.md R125). -/
def execWrReservedB8 (_data : Word) (s : State) : StepResult := refusedWrite s

/-- RD 0xBC, reserved (40_config.md R113). -/
def execRdReservedBC (s : State) : StepResult := refusedRead s

/-- WR 0xBC, reserved (40_config.md R125). -/
def execWrReservedBC (_data : Word) (s : State) : StepResult := refusedWrite s

/-- RD 0xC0, reserved (40_config.md R113). -/
def execRdReservedC0 (s : State) : StepResult := refusedRead s

/-- WR 0xC0, reserved (40_config.md R125). -/
def execWrReservedC0 (_data : Word) (s : State) : StepResult := refusedWrite s

/-- RD 0xC4, reserved (40_config.md R113). -/
def execRdReservedC4 (s : State) : StepResult := refusedRead s

/-- WR 0xC4, reserved (40_config.md R125). -/
def execWrReservedC4 (_data : Word) (s : State) : StepResult := refusedWrite s

/-- RD 0xC8, reserved (40_config.md R113). -/
def execRdReservedC8 (s : State) : StepResult := refusedRead s

/-- WR 0xC8, reserved (40_config.md R125). -/
def execWrReservedC8 (_data : Word) (s : State) : StepResult := refusedWrite s

/-- RD 0xCC, reserved (40_config.md R113). -/
def execRdReservedCC (s : State) : StepResult := refusedRead s

/-- WR 0xCC, reserved (40_config.md R125). -/
def execWrReservedCC (_data : Word) (s : State) : StepResult := refusedWrite s

/-- RD 0xD0, reserved (40_config.md R113). -/
def execRdReservedD0 (s : State) : StepResult := refusedRead s

/-- WR 0xD0, reserved (40_config.md R125). -/
def execWrReservedD0 (_data : Word) (s : State) : StepResult := refusedWrite s

/-- RD 0xD4, reserved (40_config.md R113). -/
def execRdReservedD4 (s : State) : StepResult := refusedRead s

/-- WR 0xD4, reserved (40_config.md R125). -/
def execWrReservedD4 (_data : Word) (s : State) : StepResult := refusedWrite s

/-- RD 0xD8, reserved (40_config.md R113). -/
def execRdReservedD8 (s : State) : StepResult := refusedRead s

/-- WR 0xD8, reserved (40_config.md R125). -/
def execWrReservedD8 (_data : Word) (s : State) : StepResult := refusedWrite s

/-- RD 0xDC, reserved (40_config.md R113). -/
def execRdReservedDC (s : State) : StepResult := refusedRead s

/-- WR 0xDC, reserved (40_config.md R125). -/
def execWrReservedDC (_data : Word) (s : State) : StepResult := refusedWrite s

/-- RD 0xE0, reserved (40_config.md R113). -/
def execRdReservedE0 (s : State) : StepResult := refusedRead s

/-- WR 0xE0, reserved (40_config.md R125). -/
def execWrReservedE0 (_data : Word) (s : State) : StepResult := refusedWrite s

/-- RD 0xE4, reserved (40_config.md R113). -/
def execRdReservedE4 (s : State) : StepResult := refusedRead s

/-- WR 0xE4, reserved (40_config.md R125). -/
def execWrReservedE4 (_data : Word) (s : State) : StepResult := refusedWrite s

/-- RD 0xE8, reserved (40_config.md R113). -/
def execRdReservedE8 (s : State) : StepResult := refusedRead s

/-- WR 0xE8, reserved (40_config.md R125). -/
def execWrReservedE8 (_data : Word) (s : State) : StepResult := refusedWrite s

/-- RD 0xEC, reserved (40_config.md R113). -/
def execRdReservedEC (s : State) : StepResult := refusedRead s

/-- WR 0xEC, reserved (40_config.md R125). -/
def execWrReservedEC (_data : Word) (s : State) : StepResult := refusedWrite s

/-- RD 0xF0, reserved (40_config.md R113). -/
def execRdReservedF0 (s : State) : StepResult := refusedRead s

/-- WR 0xF0, reserved (40_config.md R125). -/
def execWrReservedF0 (_data : Word) (s : State) : StepResult := refusedWrite s

/-- RD 0xF4, reserved (40_config.md R113). -/
def execRdReservedF4 (s : State) : StepResult := refusedRead s

/-- WR 0xF4, reserved (40_config.md R125). -/
def execWrReservedF4 (_data : Word) (s : State) : StepResult := refusedWrite s

/-- RD 0xF8, reserved (40_config.md R113). -/
def execRdReservedF8 (s : State) : StepResult := refusedRead s

/-- WR 0xF8, reserved (40_config.md R125). -/
def execWrReservedF8 (_data : Word) (s : State) : StepResult := refusedWrite s

/-- RD 0xFC, reserved (40_config.md R113). -/
def execRdReservedFC (s : State) : StepResult := refusedRead s

/-- WR 0xFC, reserved (40_config.md R125). -/
def execWrReservedFC (_data : Word) (s : State) : StepResult := refusedWrite s

/-! ## Misaligned offsets -/

/-- RD at OFF[1:0] = 01 (40_config.md R113; 20_memory.md R67). -/
def execRdMisaligned1 (_o : BitVec 6) (s : State) : StepResult := refusedRead s

/-- RD at OFF[1:0] = 10 (40_config.md R113; 20_memory.md R67). -/
def execRdMisaligned2 (_o : BitVec 6) (s : State) : StepResult := refusedRead s

/-- RD at OFF[1:0] = 11 (40_config.md R113; 20_memory.md R67). -/
def execRdMisaligned3 (_o : BitVec 6) (s : State) : StepResult := refusedRead s

/-- WR at OFF[1:0] = 01 (40_config.md R125; 20_memory.md R67). -/
def execWrMisaligned1 (_o : BitVec 6) (_data : Word) (s : State) : StepResult := refusedWrite s

/-- WR at OFF[1:0] = 10 (40_config.md R125; 20_memory.md R67). -/
def execWrMisaligned2 (_o : BitVec 6) (_data : Word) (s : State) : StepResult := refusedWrite s

/-- WR at OFF[1:0] = 11 (40_config.md R125; 20_memory.md R67). -/
def execWrMisaligned3 (_o : BitVec 6) (_data : Word) (s : State) : StepResult := refusedWrite s

end Sys2Proof.Machine
end

