-- ==== Sys2Proof/Machine/Setters.lean ====
section
/-! DEFINITION. Storage writes and configuration setters: 40_config.md R115 to R123. Each setter checks its own field
only (R124), checks it whole before it commits, and never clamps (R110). -/

namespace Sys2Proof.Machine

/-! ## Storage writes (40_config.md R111) -/

/-- WR ARG0 (40_config.md R115): any value is stored; RESULT is not written. -/
def execWrArg0 (data : Word) (s : State) : StepResult :=
  unlessHalted s (.next (storeDone { s with arg0 := data }))

/-- WR ARG1 (40_config.md R116). -/
def execWrArg1 (data : Word) (s : State) : StepResult :=
  unlessHalted s (.next (storeDone { s with arg1 := data }))

/-! ## Setters -/

/-- WR CFG_WIDTH (40_config.md R117): sint32, RangeError outside 1 to MAX_WIDTH. -/
def execWrCfgWidth (data : Word) (s : State) : StepResult :=
  unlessHalted s <|
    if sint32 data < 1 ∨ sint32 data > s.params.maxWidth then .next (raise .rangeError s)
    else .next (complete { s with cfgWidth := data })

/-- WR CFG_HEIGHT (40_config.md R118): sint32, RangeError outside 1 to MAX_HEIGHT; no page check (R124). -/
def execWrCfgHeight (data : Word) (s : State) : StepResult :=
  unlessHalted s <|
    if sint32 data < 1 ∨ sint32 data > s.params.maxHeight then .next (raise .rangeError s)
    else .next (complete { s with cfgHeight := data })

/-- WR CFG_MODES (40_config.md R119): TypeMismatch for a bit of no mode, then RangeError for the empty set. -/
def execWrCfgModes (data : Word) (s : State) : StepResult :=
  unlessHalted s <|
    if data.extractLsb' 5 27 ≠ 0#27 then .next (raise .typeMismatch s)
    else if data.extractLsb' 0 5 = 0#5 then .next (raise .rangeError s)
    else .next (complete { s with cfgModes := data })

/-- WR CFG_SCAN (40_config.md R120): TypeMismatch above 5. -/
def execWrCfgScan (data : Word) (s : State) : StepResult :=
  unlessHalted s <|
    if data.toNat > 5 then .next (raise .typeMismatch s)
    else .next (complete { s with cfgScan := data })

/-- WR CFG_BITORD (40_config.md R121): TypeMismatch above 1. -/
def execWrCfgBitord (data : Word) (s : State) : StepResult :=
  unlessHalted s <|
    if data.toNat > 1 then .next (raise .typeMismatch s)
    else .next (complete { s with cfgBitord := data })

/-- WR CFG_ROW_OFFSET (40_config.md R122): sint32, RangeError when negative. -/
def execWrCfgRowOffset (data : Word) (s : State) : StepResult :=
  unlessHalted s <|
    if sint32 data < 0 then .next (raise .rangeError s)
    else .next (complete { s with cfgRowOffset := data })

/-- WR CFG_COL_OFFSET (40_config.md R123): sint32, RangeError when negative. -/
def execWrCfgColOffset (data : Word) (s : State) : StepResult :=
  unlessHalted s <|
    if sint32 data < 0 then .next (raise .rangeError s)
    else .next (complete { s with cfgColOffset := data })

end Sys2Proof.Machine
end

