-- ==== Sys2Proof/Machine/Dispatch.lean ====
section
/-! DEFINITION. The dispatch: one arm for each constructor of Instr, each a direct call of its meaning. -/

namespace Sys2Proof.Machine

def exec (i : Instr) (s : State) : Host.Outcome State Fault Refusal :=
  match i with
  | .rdId => Sys2Proof.Machine.execRdId s
  | .rdStatus => Sys2Proof.Machine.execRdStatus s
  | .rdCmd => Sys2Proof.Machine.execRdCmd s
  | .rdArg0 => Sys2Proof.Machine.execRdArg0 s
  | .rdArg1 => Sys2Proof.Machine.execRdArg1 s
  | .rdRdata => Sys2Proof.Machine.execRdRdata s
  | .rdOutLen => Sys2Proof.Machine.execRdOutLen s
  | .rdCfgWidth => Sys2Proof.Machine.execRdCfgWidth s
  | .rdCfgHeight => Sys2Proof.Machine.execRdCfgHeight s
  | .rdCfgModes => Sys2Proof.Machine.execRdCfgModes s
  | .rdCfgScan => Sys2Proof.Machine.execRdCfgScan s
  | .rdCfgBitord => Sys2Proof.Machine.execRdCfgBitord s
  | .rdCfgRowOffset => Sys2Proof.Machine.execRdCfgRowOffset s
  | .rdCfgColOffset => Sys2Proof.Machine.execRdCfgColOffset s
  | .rdFbWidth => Sys2Proof.Machine.execRdFbWidth s
  | .rdFbHeight => Sys2Proof.Machine.execRdFbHeight s
  | .rdFbMode => Sys2Proof.Machine.execRdFbMode s
  | .wrIdReadOnly data => Sys2Proof.Machine.execWrIdReadOnly data s
  | .wrStatusReadOnly data => Sys2Proof.Machine.execWrStatusReadOnly data s
  | .wrCmd data => Sys2Proof.Machine.execWrCmd data s
  | .wrArg0 data => Sys2Proof.Machine.execWrArg0 data s
  | .wrArg1 data => Sys2Proof.Machine.execWrArg1 data s
  | .wrRdataReadOnly data => Sys2Proof.Machine.execWrRdataReadOnly data s
  | .wrOutLenReadOnly data => Sys2Proof.Machine.execWrOutLenReadOnly data s
  | .wrCfgWidth data => Sys2Proof.Machine.execWrCfgWidth data s
  | .wrCfgHeight data => Sys2Proof.Machine.execWrCfgHeight data s
  | .wrCfgModes data => Sys2Proof.Machine.execWrCfgModes data s
  | .wrCfgScan data => Sys2Proof.Machine.execWrCfgScan data s
  | .wrCfgBitord data => Sys2Proof.Machine.execWrCfgBitord data s
  | .wrCfgRowOffset data => Sys2Proof.Machine.execWrCfgRowOffset data s
  | .wrCfgColOffset data => Sys2Proof.Machine.execWrCfgColOffset data s
  | .wrFbWidthReadOnly data => Sys2Proof.Machine.execWrFbWidthReadOnly data s
  | .wrFbHeightReadOnly data => Sys2Proof.Machine.execWrFbHeightReadOnly data s
  | .wrFbModeReadOnly data => Sys2Proof.Machine.execWrFbModeReadOnly data s
  | .rdReserved1C => Sys2Proof.Machine.execRdReserved1C s
  | .wrReserved1C data => Sys2Proof.Machine.execWrReserved1C data s
  | .rdReserved3C => Sys2Proof.Machine.execRdReserved3C s
  | .wrReserved3C data => Sys2Proof.Machine.execWrReserved3C data s
  | .rdReserved4C => Sys2Proof.Machine.execRdReserved4C s
  | .wrReserved4C data => Sys2Proof.Machine.execWrReserved4C data s
  | .rdReserved50 => Sys2Proof.Machine.execRdReserved50 s
  | .wrReserved50 data => Sys2Proof.Machine.execWrReserved50 data s
  | .rdReserved54 => Sys2Proof.Machine.execRdReserved54 s
  | .wrReserved54 data => Sys2Proof.Machine.execWrReserved54 data s
  | .rdReserved58 => Sys2Proof.Machine.execRdReserved58 s
  | .wrReserved58 data => Sys2Proof.Machine.execWrReserved58 data s
  | .rdReserved5C => Sys2Proof.Machine.execRdReserved5C s
  | .wrReserved5C data => Sys2Proof.Machine.execWrReserved5C data s
  | .rdReserved60 => Sys2Proof.Machine.execRdReserved60 s
  | .wrReserved60 data => Sys2Proof.Machine.execWrReserved60 data s
  | .rdReserved64 => Sys2Proof.Machine.execRdReserved64 s
  | .wrReserved64 data => Sys2Proof.Machine.execWrReserved64 data s
  | .rdReserved68 => Sys2Proof.Machine.execRdReserved68 s
  | .wrReserved68 data => Sys2Proof.Machine.execWrReserved68 data s
  | .rdReserved6C => Sys2Proof.Machine.execRdReserved6C s
  | .wrReserved6C data => Sys2Proof.Machine.execWrReserved6C data s
  | .rdReserved70 => Sys2Proof.Machine.execRdReserved70 s
  | .wrReserved70 data => Sys2Proof.Machine.execWrReserved70 data s
  | .rdReserved74 => Sys2Proof.Machine.execRdReserved74 s
  | .wrReserved74 data => Sys2Proof.Machine.execWrReserved74 data s
  | .rdReserved78 => Sys2Proof.Machine.execRdReserved78 s
  | .wrReserved78 data => Sys2Proof.Machine.execWrReserved78 data s
  | .rdReserved7C => Sys2Proof.Machine.execRdReserved7C s
  | .wrReserved7C data => Sys2Proof.Machine.execWrReserved7C data s
  | .rdReserved80 => Sys2Proof.Machine.execRdReserved80 s
  | .wrReserved80 data => Sys2Proof.Machine.execWrReserved80 data s
  | .rdReserved84 => Sys2Proof.Machine.execRdReserved84 s
  | .wrReserved84 data => Sys2Proof.Machine.execWrReserved84 data s
  | .rdReserved88 => Sys2Proof.Machine.execRdReserved88 s
  | .wrReserved88 data => Sys2Proof.Machine.execWrReserved88 data s
  | .rdReserved8C => Sys2Proof.Machine.execRdReserved8C s
  | .wrReserved8C data => Sys2Proof.Machine.execWrReserved8C data s
  | .rdReserved90 => Sys2Proof.Machine.execRdReserved90 s
  | .wrReserved90 data => Sys2Proof.Machine.execWrReserved90 data s
  | .rdReserved94 => Sys2Proof.Machine.execRdReserved94 s
  | .wrReserved94 data => Sys2Proof.Machine.execWrReserved94 data s
  | .rdReserved98 => Sys2Proof.Machine.execRdReserved98 s
  | .wrReserved98 data => Sys2Proof.Machine.execWrReserved98 data s
  | .rdReserved9C => Sys2Proof.Machine.execRdReserved9C s
  | .wrReserved9C data => Sys2Proof.Machine.execWrReserved9C data s
  | .rdReservedA0 => Sys2Proof.Machine.execRdReservedA0 s
  | .wrReservedA0 data => Sys2Proof.Machine.execWrReservedA0 data s
  | .rdReservedA4 => Sys2Proof.Machine.execRdReservedA4 s
  | .wrReservedA4 data => Sys2Proof.Machine.execWrReservedA4 data s
  | .rdReservedA8 => Sys2Proof.Machine.execRdReservedA8 s
  | .wrReservedA8 data => Sys2Proof.Machine.execWrReservedA8 data s
  | .rdReservedAC => Sys2Proof.Machine.execRdReservedAC s
  | .wrReservedAC data => Sys2Proof.Machine.execWrReservedAC data s
  | .rdReservedB0 => Sys2Proof.Machine.execRdReservedB0 s
  | .wrReservedB0 data => Sys2Proof.Machine.execWrReservedB0 data s
  | .rdReservedB4 => Sys2Proof.Machine.execRdReservedB4 s
  | .wrReservedB4 data => Sys2Proof.Machine.execWrReservedB4 data s
  | .rdReservedB8 => Sys2Proof.Machine.execRdReservedB8 s
  | .wrReservedB8 data => Sys2Proof.Machine.execWrReservedB8 data s
  | .rdReservedBC => Sys2Proof.Machine.execRdReservedBC s
  | .wrReservedBC data => Sys2Proof.Machine.execWrReservedBC data s
  | .rdReservedC0 => Sys2Proof.Machine.execRdReservedC0 s
  | .wrReservedC0 data => Sys2Proof.Machine.execWrReservedC0 data s
  | .rdReservedC4 => Sys2Proof.Machine.execRdReservedC4 s
  | .wrReservedC4 data => Sys2Proof.Machine.execWrReservedC4 data s
  | .rdReservedC8 => Sys2Proof.Machine.execRdReservedC8 s
  | .wrReservedC8 data => Sys2Proof.Machine.execWrReservedC8 data s
  | .rdReservedCC => Sys2Proof.Machine.execRdReservedCC s
  | .wrReservedCC data => Sys2Proof.Machine.execWrReservedCC data s
  | .rdReservedD0 => Sys2Proof.Machine.execRdReservedD0 s
  | .wrReservedD0 data => Sys2Proof.Machine.execWrReservedD0 data s
  | .rdReservedD4 => Sys2Proof.Machine.execRdReservedD4 s
  | .wrReservedD4 data => Sys2Proof.Machine.execWrReservedD4 data s
  | .rdReservedD8 => Sys2Proof.Machine.execRdReservedD8 s
  | .wrReservedD8 data => Sys2Proof.Machine.execWrReservedD8 data s
  | .rdReservedDC => Sys2Proof.Machine.execRdReservedDC s
  | .wrReservedDC data => Sys2Proof.Machine.execWrReservedDC data s
  | .rdReservedE0 => Sys2Proof.Machine.execRdReservedE0 s
  | .wrReservedE0 data => Sys2Proof.Machine.execWrReservedE0 data s
  | .rdReservedE4 => Sys2Proof.Machine.execRdReservedE4 s
  | .wrReservedE4 data => Sys2Proof.Machine.execWrReservedE4 data s
  | .rdReservedE8 => Sys2Proof.Machine.execRdReservedE8 s
  | .wrReservedE8 data => Sys2Proof.Machine.execWrReservedE8 data s
  | .rdReservedEC => Sys2Proof.Machine.execRdReservedEC s
  | .wrReservedEC data => Sys2Proof.Machine.execWrReservedEC data s
  | .rdReservedF0 => Sys2Proof.Machine.execRdReservedF0 s
  | .wrReservedF0 data => Sys2Proof.Machine.execWrReservedF0 data s
  | .rdReservedF4 => Sys2Proof.Machine.execRdReservedF4 s
  | .wrReservedF4 data => Sys2Proof.Machine.execWrReservedF4 data s
  | .rdReservedF8 => Sys2Proof.Machine.execRdReservedF8 s
  | .wrReservedF8 data => Sys2Proof.Machine.execWrReservedF8 data s
  | .rdReservedFC => Sys2Proof.Machine.execRdReservedFC s
  | .wrReservedFC data => Sys2Proof.Machine.execWrReservedFC data s
  | .rdMisaligned1 o => Sys2Proof.Machine.execRdMisaligned1 o s
  | .rdMisaligned2 o => Sys2Proof.Machine.execRdMisaligned2 o s
  | .rdMisaligned3 o => Sys2Proof.Machine.execRdMisaligned3 o s
  | .wrMisaligned1 o data => Sys2Proof.Machine.execWrMisaligned1 o data s
  | .wrMisaligned2 o data => Sys2Proof.Machine.execWrMisaligned2 o data s
  | .wrMisaligned3 o data => Sys2Proof.Machine.execWrMisaligned3 o data s
  | .fbSetup => Sys2Proof.Machine.execFbSetup s
  | .fbWrite => Sys2Proof.Machine.execFbWrite s
  | .fbRead => Sys2Proof.Machine.execFbRead s
  | .fbFill => Sys2Proof.Machine.execFbFill s
  | .generate => Sys2Proof.Machine.execGenerate s
  | .illegalCommand hi opc => Sys2Proof.Machine.execIllegalCommand hi opc s
  | .reservedCommand opc => Sys2Proof.Machine.execReservedCommand opc s

end Sys2Proof.Machine
end

