-- ==== Sys2Proof/Machine/Port.lean ====
section
/-! DEFINITION. The register port: taking the next event the outside presents, decoding an access, and placing an
access for the next step. -/

namespace Sys2Proof.Machine

/-- One access performed as one atomic step (10_state.md R30; 20_memory.md R68): decoded and executed. -/
def performAccess (a : Access) (s : State) : StepResult :=
  match decodeAccess a with
  | .ok i => exec i s
  | .error why => .refused (.undecodable why)

/-- One event: an access, or a pulse of the reset input (70_reset_and_hazards.md R270). -/
def performInput (i : Input) (s : State) : StepResult :=
  match i with
  | .access a => performAccess a s
  | .reset => .next (applyReset s)

/-- The oldest event still to be presented is taken and performed. With none, nothing happens: the core has no agent
of its own that runs between accesses (10_state.md R30; DESIGN CHOICE, log entry 3). -/
def performNext (s : State) : StepResult :=
  match s.inputs with
  | [] => .next s
  | i :: rest => performInput i { s with inputs := rest }

/-- An access placed where the next step takes it. -/
def presentFirst (a : Access) (s : State) : State := { s with inputs := .access a :: s.inputs }

/-- A row's bits presented as the next access; bits that are no encoding present nothing. -/
def presentBits (nbits w : Nat) (s : State) : State :=
  match encodingOfBits nbits w with
  | .ok e => presentFirst e.access s
  | .error _ => s

end Sys2Proof.Machine
end

