-- ==== Sys2Proof/Machine/Step.lean ====
section
/-! DEFINITION. The step of the machine: the next event of the port is performed (10_state.md R30; 20_memory.md R71). -/

namespace Sys2Proof.Machine

/-- One step: one event, in the order the outside presents them, to completion (20_memory.md R71). -/
def step (s : State) : Host.Outcome State Fault Refusal := performNext s

/-- s with the row's bits presented as the access the next step performs (log entry 1). A command word is presented
as the write to CMD that carries it (log entry 8). -/
def State.withFetchWord (s : State) (nbits w : Nat) : State := presentBits nbits w s

end Sys2Proof.Machine
end

