-- ==== Sys2Proof/Safety.lean ====
section
/-! DEFINITION. What counts as a safe run, in the terms statements use: the classes of access (40_config.md R111), the
state invariants of 10_state.md R55 to R57, and the step that neither faults nor refuses. -/

namespace Sys2Proof.Machine

/-! ## Classes of access -/

/-- The classes of 40_config.md R111; a read of a refused offset (R113) is named apart. -/
inductive AccessClass where
  | read
  | refusedRead
  | storageWrite
  | operationWrite
  | refusedWrite
deriving DecidableEq, Repr

/-- The class of each instruction (40_config.md R111): a setter, WR CMD or a command is an operation write. -/
def accessClass (i : Instr) : AccessClass :=
  match i with
  | .rdId | .rdStatus | .rdCmd | .rdArg0 => .read
  | .rdArg1 | .rdRdata | .rdOutLen | .rdCfgWidth => .read
  | .rdCfgHeight | .rdCfgModes | .rdCfgScan | .rdCfgBitord => .read
  | .rdCfgRowOffset | .rdCfgColOffset | .rdFbWidth | .rdFbHeight => .read
  | .rdFbMode => .read
  | .wrIdReadOnly _ | .wrStatusReadOnly _ | .wrRdataReadOnly _ | .wrOutLenReadOnly _ => .refusedWrite
  | .wrFbWidthReadOnly _ | .wrFbHeightReadOnly _ | .wrFbModeReadOnly _ | .wrReserved1C _ => .refusedWrite
  | .wrReserved3C _ | .wrReserved4C _ | .wrReserved50 _ | .wrReserved54 _ => .refusedWrite
  | .wrReserved58 _ | .wrReserved5C _ | .wrReserved60 _ | .wrReserved64 _ => .refusedWrite
  | .wrReserved68 _ | .wrReserved6C _ | .wrReserved70 _ | .wrReserved74 _ => .refusedWrite
  | .wrReserved78 _ | .wrReserved7C _ | .wrReserved80 _ | .wrReserved84 _ => .refusedWrite
  | .wrReserved88 _ | .wrReserved8C _ | .wrReserved90 _ | .wrReserved94 _ => .refusedWrite
  | .wrReserved98 _ | .wrReserved9C _ | .wrReservedA0 _ | .wrReservedA4 _ => .refusedWrite
  | .wrReservedA8 _ | .wrReservedAC _ | .wrReservedB0 _ | .wrReservedB4 _ => .refusedWrite
  | .wrReservedB8 _ | .wrReservedBC _ | .wrReservedC0 _ | .wrReservedC4 _ => .refusedWrite
  | .wrReservedC8 _ | .wrReservedCC _ | .wrReservedD0 _ | .wrReservedD4 _ => .refusedWrite
  | .wrReservedD8 _ | .wrReservedDC _ | .wrReservedE0 _ | .wrReservedE4 _ => .refusedWrite
  | .wrReservedE8 _ | .wrReservedEC _ | .wrReservedF0 _ | .wrReservedF4 _ => .refusedWrite
  | .wrReservedF8 _ | .wrReservedFC _ | .wrMisaligned1 _ _ | .wrMisaligned2 _ _ => .refusedWrite
  | .wrMisaligned3 _ _ => .refusedWrite
  | .wrCmd _ | .wrCfgWidth _ | .wrCfgHeight _ | .wrCfgModes _ => .operationWrite
  | .wrCfgScan _ | .wrCfgBitord _ | .wrCfgRowOffset _ | .wrCfgColOffset _ => .operationWrite
  | .fbSetup | .fbWrite | .fbRead | .fbFill => .operationWrite
  | .generate | .illegalCommand _ _ | .reservedCommand _ => .operationWrite
  | .wrArg0 _ | .wrArg1 _ => .storageWrite
  | .rdReserved1C | .rdReserved3C | .rdReserved4C | .rdReserved50 => .refusedRead
  | .rdReserved54 | .rdReserved58 | .rdReserved5C | .rdReserved60 => .refusedRead
  | .rdReserved64 | .rdReserved68 | .rdReserved6C | .rdReserved70 => .refusedRead
  | .rdReserved74 | .rdReserved78 | .rdReserved7C | .rdReserved80 => .refusedRead
  | .rdReserved84 | .rdReserved88 | .rdReserved8C | .rdReserved90 => .refusedRead
  | .rdReserved94 | .rdReserved98 | .rdReserved9C | .rdReservedA0 => .refusedRead
  | .rdReservedA4 | .rdReservedA8 | .rdReservedAC | .rdReservedB0 => .refusedRead
  | .rdReservedB4 | .rdReservedB8 | .rdReservedBC | .rdReservedC0 => .refusedRead
  | .rdReservedC4 | .rdReservedC8 | .rdReservedCC | .rdReservedD0 => .refusedRead
  | .rdReservedD4 | .rdReservedD8 | .rdReservedDC | .rdReservedE0 => .refusedRead
  | .rdReservedE4 | .rdReservedE8 | .rdReservedEC | .rdReservedF0 => .refusedRead
  | .rdReservedF4 | .rdReservedF8 | .rdReservedFC | .rdMisaligned1 _ => .refusedRead
  | .rdMisaligned2 _ | .rdMisaligned3 _ => .refusedRead

/-- A write of any class: it is refused while FATAL is set (40_config.md R112). -/
def isWrite (i : Instr) : Bool :=
  match accessClass i with
  | .read => false
  | .refusedRead => false
  | .storageWrite => true
  | .operationWrite => true
  | .refusedWrite => true

/-! ## Invariants -/

/-- The parameters are ones 00_scope.md R9 allows. -/
structure ParamsInv (p : Params) : Prop where
  width_pos : 1 ≤ p.maxWidth
  width_le : p.maxWidth ≤ 65535
  height_pos : 1 ≤ p.maxHeight
  height_le : p.maxHeight ≤ 65535
  pixels_pos : 1 ≤ p.fbMaxPixels

/-- The configuration invariant of 10_state.md R55. -/
structure CfgInv (s : State) : Prop where
  width_pos : 1 ≤ s.cfgWidth.toNat
  width_le : s.cfgWidth.toNat ≤ s.params.maxWidth
  height_pos : 1 ≤ s.cfgHeight.toNat
  height_le : s.cfgHeight.toNat ≤ s.params.maxHeight
  modes_some : s.cfgModes.extractLsb' 0 5 ≠ 0#5
  modes_only : s.cfgModes.extractLsb' 5 27 = 0#27
  scan_le : s.cfgScan.toNat ≤ 5
  bitord_le : s.cfgBitord.toNat ≤ 1
  row_lt : s.cfgRowOffset.toNat < 2147483648
  col_lt : s.cfgColOffset.toNat < 2147483648

/-- The descriptor clause of 10_state.md R56. -/
def DescriptorInv (s : State) : Prop :=
  (s.fbWidth = 0#16 ∧ s.fbHeight = 0#16) ∨
  (1 ≤ s.fbWidth.toNat ∧ s.fbWidth.toNat ≤ s.params.maxWidth ∧
    1 ≤ s.fbHeight.toNat ∧ s.fbHeight.toNat ≤ s.params.maxHeight ∧
    s.fbWidth.toNat * s.fbHeight.toNat ≤ s.params.fbMaxPixels)

/-- The framebuffer invariant of 10_state.md R56 with the storage's own form: canonical, nothing stored outside the
descriptor (R48), and a mono element one bit wide (20_memory.md R63), so that equal contents are equal data. -/
structure FbInv (s : State) : Prop where
  descriptor : DescriptorInv s
  canonical : s.fb.wf
  inside : ∀ c ∈ s.fb, inFrame s.fbMode s.fbWidth.toNat s.fbHeight.toNat c.1 = true
  monoBit : s.fbMode = .mono → ∀ c ∈ s.fb, c.2.toNat ≤ 1

/-- The invariant of every reachable state: 10_state.md R55, R56, the unreachable halt of R57, the codes of
60_exceptions.md R257, and non-empty frames (10_state.md R49). -/
structure CoreInv (s : State) : Prop where
  params : ParamsInv s.params
  cfg : CfgInv s
  fbuf : FbInv s
  running : s.fatal = false
  code : s.result.toNat ≤ 13
  frames : ∀ f ∈ s.out, f ≠ []

/-- The STATUS invariant of 10_state.md R57: FATAL only with RESULT = 11. It is kept from halted states too. -/
def StatusInv (s : State) : Prop := s.fatal = true → s.result = ErrorCode.unmappedStrategy.code

/-- A safe outcome: a next state, neither a model fault nor a refusal (60_exceptions.md R249). -/
def Proceeds (r : StepResult) : Prop := ∃ t, r = .next t

/-! ## Terms of the statements -/

/-- The read at an offset is instruction i, and it answers with v and OKAY and changes nothing (40_config.md R114). -/
def ReadGives (off : Offset) (i : Instr) (v : State → Word) : Prop :=
  decodeAccess (.read off) = .ok i ∧
  ∀ s, exec i s = .next { s with responses := s.responses ++ [{ resp := .okay, rdata := some (v s) }] }

/-- The writes at an offset are the instructions i DATA (30_encoding.md R82). -/
def WritesAt (off : Offset) (i : Word → Instr) : Prop := ∀ data, decodeAccess (.write off data) = .ok (i data)

/-- A reserved offset: aligned, and no register stands there (30_encoding.md R82, R91). -/
def reservedOffset (off : Offset) : Bool :=
  off.toNat % 4 = 0 && (off.toNat = 0x1C || off.toNat = 0x3C || 0x4C ≤ off.toNat)

/-- The offset of a read-only register (30_encoding.md R82). -/
def readOnlyOffset (off : Offset) : Bool :=
  [0x00, 0x04, 0x14, 0x18, 0x40, 0x44, 0x48].contains off.toNat

/-- The seven setters (40_config.md R117 to R123), each with the register it writes. -/
def setterOf : Instr → Option RegName
  | .wrCfgWidth _ => some .cfgWidth
  | .wrCfgHeight _ => some .cfgHeight
  | .wrCfgModes _ => some .cfgModes
  | .wrCfgScan _ => some .cfgScan
  | .wrCfgBitord _ => some .cfgBitord
  | .wrCfgRowOffset _ => some .cfgRowOffset
  | .wrCfgColOffset _ => some .cfgColOffset
  | _ => none

/-- The command an instruction runs: itself, or what the command word of a WR CMD names (40_config.md R126). -/
def commandOf : Instr → Instr
  | .wrCmd data => decodeCommand data
  | i => i

/-- The conditions of 44_modulator.md R211 and R212 under which GENERATE emits a frame, with the strategies it
resolves. -/
structure Ready (s : State) (d : ScanOrder) (c : Coder) : Prop where
  running : s.fatal = false
  width : s.fbWidth.toNat = s.cfgWidth.toNat
  height : s.fbHeight.toNat = s.cfgHeight.toNat
  supported : s.cfgModes.getLsbD s.fbMode.code = true
  pages : d.isPageBased = true → s.cfgHeight.toNat % 8 = 0
  scan : ScanOrder.ofCode s.cfgScan = some d
  bitord : Coder.ofCode s.cfgBitord = some c

/-- N = W * H (44_modulator.md, notation). -/
def pixelCount (s : State) : Nat := s.cfgWidth.toNat * s.cfgHeight.toNat

/-- The pixel at position k of the scan, by the closed form (42_scan_order.md R172 to R178). -/
def pixelAt (s : State) (d : ScanOrder) (k : Nat) : Word :=
  fbRead s.fb s.fbMode (scanCoord d s.cfgWidth.toNat s.cfgHeight.toNat k).1
    (scanCoord d s.cfgWidth.toNat s.cfgHeight.toNat k).2

/-- The state GENERATE leaves when it emits a frame (44_modulator.md R219): the stream one frame longer, OUT_LEN its
length modulo 2^32, RESULT 0, response OKAY, everything else as before. -/
def emitted (s : State) (frame : List Byte) : State :=
  { s with
    out := s.out ++ [frame], outLen := BitVec.ofNat 32 frame.length, result := 0#8,
    responses := s.responses ++ [writeOkay] }

/-- A channel byte as it leaves: unchanged under msb_first, reversed under lsb_first (44_modulator.md R217). -/
def inBitOrder (c : Coder) (b : Byte) : Byte :=
  match c with
  | .msb => b
  | .lsb => rev8 b

/-- The state a failed operation write leaves: RESULT the code, response ERROR, everything else as before
(40_config.md R110). -/
def failedWith (s : State) (code : BitVec 8) : State :=
  { s with result := code, responses := s.responses ++ [writeError] }

/-! ## What a run shows -/

/-- The last response, if any access has completed (70_reset_and_hazards.md R277). -/
def lastResponse (s : State) : Option Response := s.responses.getLast?

end Sys2Proof.Machine
end

