-- ==== Sys2Proof/Certificates/Slice0/Obligations.lean ====
section
/-! DEFINITION. The statements for the provers: encoding, the port, reset, reads, refused accesses, setters, framebuffer
commands, scan orders, bit coders, GENERATE, and the invariants of the whole machine. -/

open Sys2Proof Sys2Proof.Machine

/-! ## Encoding -/

/-- Decoding the encoding of a well-formed instruction gives it back, with every operand at every value (30_encoding.md
R80, R82 to R84, R97). -/
def Obligations.DecodeOfEncode : Prop :=
  ∀ i : Instr, i.wellFormed = true → decode (encode i) = .ok i

/-- Whatever an encoded form decodes to is well formed and encodes back to that form: no two forms share an
instruction (30_encoding.md R97). -/
def Obligations.EncodeOfDecode : Prop :=
  ∀ (e : Encoding) (i : Instr), decode e = .ok i → encode i = e ∧ i.wellFormed = true

/-- Every access and every command word decodes: no encoding is left unpredictable (30_encoding.md R91, R97). -/
def Obligations.EveryEncodingDecodes : Prop :=
  ∀ e : Encoding, ∃ i, decode e = .ok i

/-- Descriptors and command words written out from the spec decode to their instructions (30_encoding.md R80, R82, R84,
R94). -/
def Obligations.SampleWordsDecode : Prop :=
  decodeAccess (.ofDescriptor 0b000000100#9 0#32) = .ok .rdStatus ∧
  decodeAccess (.ofDescriptor 0b100100000#9 8#32) = .ok (.wrCfgWidth 8#32) ∧
  decodeAccess (.ofDescriptor 0b100001100#9 0x00070003#32) = .ok (.wrArg0 0x00070003#32) ∧
  decodeAccess (.ofDescriptor 0b100000000#9 5#32) = .ok (.wrIdReadOnly 5#32) ∧
  decodeAccess (.ofDescriptor 0b000011100#9 0#32) = .ok .rdReserved1C ∧
  decodeAccess (.ofDescriptor 0b100011101#9 1#32) = .ok (.wrMisaligned1 0b000111#6 1#32) ∧
  decodeCommand 0x00000010#32 = .generate ∧
  decodeCommand 0x00000110#32 = .illegalCommand 1#24 0x10#8

/-! ## The port and reset -/

/-- When the next access presents an encoded form that decodes to instruction i, the step takes that access from the
port and is exec of i there. For a command word the access is the write to CMD that carries it. -/
def Obligations.StepRunsDecodedInstruction : Prop :=
  ∀ (e : Encoding) (i : Instr) (s : State) (rest : List Input),
    decode e = .ok i → s.inputs = .access e.access :: rest →
    step s = exec i { s with inputs := rest }

/-- With nothing presented to it the core stays as it is (the model's choice, log entry 3; 10_state.md R30: no agent
of its own runs between accesses). -/
def Obligations.StepWithoutInputIdles : Prop :=
  ∀ s : State, s.inputs = [] → step s = .next s

/-- The step of an access takes exactly that access from the port and completes with exactly one response
(30_encoding.md R81, 20_memory.md R71). -/
def Obligations.EachAccessGetsOneResponse : Prop :=
  ∀ (s : State) (a : Access) (rest : List Input), s.inputs = .access a :: rest →
    ∃ t r, step s = .next t ∧ t.inputs = rest ∧ t.responses = s.responses ++ [r]

/-- The reset state holds every value of the table of 70_reset_and_hazards.md R271. That the storage lists nothing is
the model's choice (log entry 6): the table says that no pixel exists and leaves the physical contents unspecified. -/
def Obligations.ResetHoldsSpecValues : Prop :=
  let s := State.reset
  regValue .id s = 0x444F5401#32 ∧ s.result = 0#8 ∧ s.fatal = false ∧ regValue .status s = 0#32 ∧
  regValue .cmd s = 0#32 ∧ s.arg0 = 0#32 ∧ s.arg1 = 0#32 ∧ s.rdata = 0#32 ∧ s.outLen = 0#32 ∧
  s.cfgWidth = 1#32 ∧ s.cfgHeight = 1#32 ∧ s.cfgModes = 1#32 ∧ s.cfgScan = 0#32 ∧ s.cfgBitord = 0#32 ∧
  s.cfgRowOffset = 0#32 ∧ s.cfgColOffset = 0#32 ∧ s.fbWidth = 0#16 ∧ s.fbHeight = 0#16 ∧ s.fbMode = .mono ∧
  s.fb = [] ∧ s.out = []

/-- A pulse of the reset input puts every piece of state at its reset value; the parameters and what the outside has
still to present stay (70_reset_and_hazards.md R270; the event itself is the model's, log entry 4). -/
def Obligations.ResetInputGivesResetState : Prop :=
  ∀ (s : State) (rest : List Input), s.inputs = .reset :: rest →
    step s = .next { State.reset with params := s.params, inputs := rest }

/-- Reset clears FATAL and sets the framebuffer descriptor to 0 x 0, and no other step does either
(70_reset_and_hazards.md R272). -/
def Obligations.OnlyResetClearsFatalAndDescriptor : Prop :=
  ∀ s t : State, step s = .next t →
    ((∃ rest, s.inputs = .reset :: rest) → t.fatal = false ∧ t.fbWidth = 0#16 ∧ t.fbHeight = 0#16) ∧
    (s.fatal = true → t.fatal = false → ∃ rest, s.inputs = .reset :: rest) ∧
    (¬ (s.fbWidth = 0#16 ∧ s.fbHeight = 0#16) → t.fbWidth = 0#16 → t.fbHeight = 0#16 →
      ∃ rest, s.inputs = .reset :: rest)

/-! ## Reads and refused accesses -/

/-- Each register's read, at its offset, answers OKAY with the register's value and changes nothing, in every state
(40_config.md R114). -/
def Obligations.RegisterReadsReturnValues : Prop :=
  ReadGives 0x00#8 .rdId (fun _ => 0x444F5401#32) ∧
  ReadGives 0x04#8 .rdStatus (fun s => 0#23 ++ BitVec.ofBool s.fatal ++ s.result) ∧
  ReadGives 0x08#8 .rdCmd (fun _ => 0#32) ∧
  ReadGives 0x0C#8 .rdArg0 (fun s => s.arg0) ∧
  ReadGives 0x10#8 .rdArg1 (fun s => s.arg1) ∧
  ReadGives 0x14#8 .rdRdata (fun s => s.rdata) ∧
  ReadGives 0x18#8 .rdOutLen (fun s => s.outLen) ∧
  ReadGives 0x20#8 .rdCfgWidth (fun s => s.cfgWidth) ∧
  ReadGives 0x24#8 .rdCfgHeight (fun s => s.cfgHeight) ∧
  ReadGives 0x28#8 .rdCfgModes (fun s => s.cfgModes) ∧
  ReadGives 0x2C#8 .rdCfgScan (fun s => s.cfgScan) ∧
  ReadGives 0x30#8 .rdCfgBitord (fun s => s.cfgBitord) ∧
  ReadGives 0x34#8 .rdCfgRowOffset (fun s => s.cfgRowOffset) ∧
  ReadGives 0x38#8 .rdCfgColOffset (fun s => s.cfgColOffset) ∧
  ReadGives 0x40#8 .rdFbWidth (fun s => 0#16 ++ s.fbWidth) ∧
  ReadGives 0x44#8 .rdFbHeight (fun s => 0#16 ++ s.fbHeight) ∧
  ReadGives 0x48#8 .rdFbMode (fun s =>
    match s.fbMode with
    | .mono => 0#32
    | .gray8 => 1#32
    | .rgb565 => 2#32
    | .rgb888 => 3#32
    | .rgba8888 => 4#32)

/-- The refused reads are exactly those at misaligned and reserved offsets, and each answers ERROR with rdata 0 and
changes nothing, also while FATAL is set (40_config.md R113). -/
def Obligations.RefusedReadsAnswerZeroAndError : Prop :=
  (∀ (off : Offset) (i : Instr), decodeAccess (.read off) = .ok i →
    (accessClass i = .refusedRead ↔ off.toNat % 4 ≠ 0 ∨ reservedOffset off = true)) ∧
  (∀ (i : Instr) (s : State), accessClass i = .refusedRead →
    exec i s = .next { s with responses := s.responses ++ [{ resp := .error, rdata := some 0#32 }] })

/-- The refused writes are exactly those at misaligned, reserved and read-only offsets, and each raises AccessError,
changing RESULT alone; while FATAL is set it changes nothing and RESULT stays (40_config.md R125). -/
def Obligations.RefusedWritesRaiseAccessError : Prop :=
  (∀ (off : Offset) (data : Word) (i : Instr), decodeAccess (.write off data) = .ok i →
    (accessClass i = .refusedWrite ↔
      off.toNat % 4 ≠ 0 ∨ reservedOffset off = true ∨ readOnlyOffset off = true)) ∧
  (∀ (i : Instr) (s : State), accessClass i = .refusedWrite →
    exec i s = if s.fatal then .next { s with responses := s.responses ++ [writeError] }
      else .next (failedWith s 12#8))

/-- While FATAL is set every write is refused with no state change, every read answers as it does on a running core
(the read of STATUS, which shows FATAL itself, answers too), and only reset leaves the halt (40_config.md R112). -/
def Obligations.HaltedCoreRefusesEveryWrite : Prop :=
  (∀ (i : Instr) (s : State), s.fatal = true → isWrite i = true →
    exec i s = .next { s with responses := s.responses ++ [writeError] }) ∧
  (∀ (i : Instr) (s : State), s.fatal = true → isWrite i = false →
    ∃ r, exec i s = .next { s with responses := s.responses ++ [r] } ∧
      (i ≠ .rdStatus → exec i { s with fatal := false } =
        .next { s with fatal := false, responses := s.responses ++ [r] })) ∧
  (∀ s t : State, s.fatal = true → step s = .next t → t.fatal = false → ∃ rest, s.inputs = .reset :: rest)

/-- A read writes no state, and repeating it answers the same (20_memory.md R66; 40_config.md R111). -/
def Obligations.ReadsChangeNothingAndRepeat : Prop :=
  ∀ (i : Instr) (s : State), isWrite i = false →
    ∃ r, exec i s = .next { s with responses := s.responses ++ [r] } ∧
      exec i { s with responses := s.responses ++ [r] } =
        .next { s with responses := s.responses ++ [r] ++ [r] }

/-! ## Storage writes and setters -/

/-- WR ARG0 and WR ARG1, at their offsets, store any value, answer OKAY and write nothing else, RESULT included; a
stored word that is no pixel of FB_MODE is refused by the FB_FILL or FB_WRITE that uses it (40_config.md R115, R116). -/
def Obligations.StorageWritesStoreOnly : Prop :=
  WritesAt 0x0C#8 .wrArg0 ∧ WritesAt 0x10#8 .wrArg1 ∧
  (∀ (data : Word) (s : State), s.fatal = false →
    exec (.wrArg0 data) s = .next { s with arg0 := data, responses := s.responses ++ [writeOkay] } ∧
    exec (.wrArg1 data) s = .next { s with arg1 := data, responses := s.responses ++ [writeOkay] }) ∧
  (∀ (data : Word) (s : State), s.fatal = true →
    exec (.wrArg0 data) s = .next { s with responses := s.responses ++ [writeError] } ∧
    exec (.wrArg1 data) s = .next { s with responses := s.responses ++ [writeError] }) ∧
  (∀ (data : Word) (s t : State), s.fatal = false → exec (.wrArg1 data) s = .next t →
    validPixel t.fbMode data = false →
    exec .fbFill t = .next (failedWith t 3#8) ∧
    (t.arg0.toNat % 65536 < t.fbWidth.toNat → t.arg0.toNat / 65536 < t.fbHeight.toNat →
      exec .fbWrite t = .next (failedWith t 3#8)))

/-- WR CFG_WIDTH and WR CFG_HEIGHT take 1 to the maximum, read as a signed word, and raise RangeError otherwise,
changing RESULT alone; a height that is no multiple of 8 is taken under a page-based scan too, and GENERATE then raises
InvalidGeometry (40_config.md R117, R118). -/
def Obligations.DimensionSetters : Prop :=
  WritesAt 0x20#8 .wrCfgWidth ∧ WritesAt 0x24#8 .wrCfgHeight ∧
  (∀ (data : Word) (s : State), s.fatal = false →
    (exec (.wrCfgWidth data) s =
      if 1 ≤ data.toInt ∧ data.toInt ≤ s.params.maxWidth then
        .next { s with cfgWidth := data, result := 0#8, responses := s.responses ++ [writeOkay] }
      else .next (failedWith s 3#8)) ∧
    (exec (.wrCfgHeight data) s =
      if 1 ≤ data.toInt ∧ data.toInt ≤ s.params.maxHeight then
        .next { s with cfgHeight := data, result := 0#8, responses := s.responses ++ [writeOkay] }
      else .next (failedWith s 3#8))) ∧
  (∀ (data : Word) (s t : State), s.fatal = false → exec (.wrCfgHeight data) s = .next t →
    lastResponse t = some writeOkay → t.cfgScan = 4#32 ∨ t.cfgScan = 5#32 → data.toNat % 8 ≠ 0 →
    t.fbWidth.toNat = t.cfgWidth.toNat → t.fbHeight.toNat = data.toNat →
    t.cfgModes.getLsbD t.fbMode.code = true →
    exec .generate t = .next (failedWith { t with outLen := 0#32 } 8#8))

/-- WR CFG_MODES raises TypeMismatch for a bit above 4, then RangeError for the empty set, and otherwise takes the mask;
with FB_MODE left out of it GENERATE then raises UnsupportedMode (40_config.md R119). -/
def Obligations.ModesSetter : Prop :=
  WritesAt 0x28#8 .wrCfgModes ∧
  (∀ (data : Word) (s : State), s.fatal = false →
    exec (.wrCfgModes data) s =
      if 32 ≤ data.toNat then .next (failedWith s 2#8)
      else if data.toNat = 0 then .next (failedWith s 3#8)
      else .next { s with cfgModes := data, result := 0#8, responses := s.responses ++ [writeOkay] }) ∧
  (∀ (data : Word) (s t : State), s.fatal = false → exec (.wrCfgModes data) s = .next t →
    lastResponse t = some writeOkay → data.getLsbD t.fbMode.code = false →
    t.fbWidth.toNat = t.cfgWidth.toNat → t.fbHeight.toNat = t.cfgHeight.toNat →
    exec .generate t = .next (failedWith { t with outLen := 0#32 } 7#8))

/-- WR CFG_SCAN takes the six codes and WR CFG_BITORD the two; each raises TypeMismatch otherwise (40_config.md R120,
R121). -/
def Obligations.ScanAndBitOrderSetters : Prop :=
  WritesAt 0x2C#8 .wrCfgScan ∧ WritesAt 0x30#8 .wrCfgBitord ∧
  ∀ (data : Word) (s : State), s.fatal = false →
    (exec (.wrCfgScan data) s =
      if data.toNat ≤ 5 then
        .next { s with cfgScan := data, result := 0#8, responses := s.responses ++ [writeOkay] }
      else .next (failedWith s 2#8)) ∧
    (exec (.wrCfgBitord data) s =
      if data.toNat ≤ 1 then
        .next { s with cfgBitord := data, result := 0#8, responses := s.responses ++ [writeOkay] }
      else .next (failedWith s 2#8))

/-- WR CFG_ROW_OFFSET and WR CFG_COL_OFFSET take any word that is not negative and raise RangeError otherwise;
no other instruction but the register's own read reads it: with another value in it, each does the same
(40_config.md R122, R123). -/
def Obligations.OffsetSetters : Prop :=
  WritesAt 0x34#8 .wrCfgRowOffset ∧ WritesAt 0x38#8 .wrCfgColOffset ∧
  (∀ (data : Word) (s : State), s.fatal = false →
    (exec (.wrCfgRowOffset data) s =
      if 0 ≤ data.toInt then
        .next { s with cfgRowOffset := data, result := 0#8, responses := s.responses ++ [writeOkay] }
      else .next (failedWith s 3#8)) ∧
    (exec (.wrCfgColOffset data) s =
      if 0 ≤ data.toInt then
        .next { s with cfgColOffset := data, result := 0#8, responses := s.responses ++ [writeOkay] }
      else .next (failedWith s 3#8))) ∧
  (∀ (i : Instr) (s t : State) (v : Word), exec i s = .next t →
    (i ≠ .rdCfgRowOffset → setterOf i ≠ some .cfgRowOffset →
      exec i { s with cfgRowOffset := v } = .next { t with cfgRowOffset := v }) ∧
    (i ≠ .rdCfgColOffset → setterOf i ≠ some .cfgColOffset →
      exec i { s with cfgColOffset := v } = .next { t with cfgColOffset := v }))

/-- Two setters of different registers that succeed one after the other succeed in the other order too and reach the
same state: no setter checks another's field (40_config.md R124). -/
def Obligations.SuccessfulSettersCommute : Prop :=
  ∀ (i j : Instr) (a b : RegName) (s t u : State), setterOf i = some a → setterOf j = some b → a ≠ b →
    exec i s = .next t → lastResponse t = some writeOkay →
    exec j t = .next u → lastResponse u = some writeOkay →
    ∃ t', exec j s = .next t' ∧ lastResponse t' = some writeOkay ∧ exec i t' = .next u

/-! ## WR CMD -/

/-- WR CMD, at its offset, raises IllegalCommand for a word with bits 31:8 not zero or an unlisted OPC, and otherwise
runs the command the OPC names; only GENERATE writes FATAL, and a later read of CMD gives 0 (40_config.md R126). -/
def Obligations.CommandWriteDispatches : Prop :=
  WritesAt 0x08#8 .wrCmd ∧
  (∀ (data : Word) (s t : State), exec (.wrCmd data) s = .next t →
    (data ≠ 0x10#32 → t.fatal = s.fatal) ∧
    exec .rdCmd t = .next { t with responses := t.responses ++ [{ resp := .okay, rdata := some 0#32 }] }) ∧
  ∀ (data : Word) (s : State), s.fatal = false →
    exec (.wrCmd data) s =
      if 256 ≤ data.toNat then .next (failedWith s 13#8)
      else if data = 0x01#32 then exec .fbSetup s
      else if data = 0x02#32 then exec .fbWrite s
      else if data = 0x03#32 then exec .fbRead s
      else if data = 0x04#32 then exec .fbFill s
      else if data = 0x10#32 then exec .generate s
      else .next (failedWith s 13#8)

/-- A write to CMD is the command its word decodes to, in every state, the halted ones too (40_config.md R126;
30_encoding.md R83). -/
def Obligations.CommandWriteIsItsCommand : Prop :=
  ∀ (data : Word) (s : State), exec (.wrCmd data) s = exec (decodeCommand data) s

/-- The illegal and the reserved command words raise IllegalCommand and change RESULT alone (40_config.md R126). -/
def Obligations.RefusedCommandWordsChangeOnlyResult : Prop :=
  ∀ (hi : BitVec 24) (opc : BitVec 8) (s : State), s.fatal = false →
    exec (.illegalCommand hi opc) s = .next (failedWith s 13#8) ∧
    exec (.reservedCommand opc) s = .next (failedWith s 13#8)

/-! ## Framebuffer commands -/

/-- FB_SETUP raises TypeMismatch for no mode, then RangeError for the dimensions or the capacity, and otherwise makes a
w by h framebuffer whose every pixel, and every byte, is zero (41_framebuffer.md R141). That what lies outside the new
descriptor reads as zero too is the model's deduction (log entries 6 and 11): contents there do not exist. -/
def Obligations.FbSetupMakesZeroFramebuffer : Prop :=
  decodeCommand 0x00000001#32 = .fbSetup ∧
  ∀ (i : Instr) (s : State), i = .fbSetup ∨ i = .wrCmd 0x01#32 → s.fatal = false →
    let w := s.arg0.toNat % 65536
    let h := s.arg0.toNat / 65536
    (4 < s.arg1.toNat → exec i s = .next (failedWith s 2#8)) ∧
    (s.arg1.toNat ≤ 4 → (w < 1 ∨ s.params.maxWidth < w ∨ h < 1 ∨ s.params.maxHeight < h ∨
        s.params.fbMaxPixels < w * h) → exec i s = .next (failedWith s 3#8)) ∧
    (∀ m : ColorMode, s.arg1.toNat = m.code → 1 ≤ w → w ≤ s.params.maxWidth → 1 ≤ h → h ≤ s.params.maxHeight →
      w * h ≤ s.params.fbMaxPixels →
      ∃ mem, exec i s = .next { s with
          fbWidth := BitVec.ofNat 16 w, fbHeight := BitVec.ofNat 16 h, fbMode := m, fb := mem, result := 0#8,
          responses := s.responses ++ [writeOkay] } ∧
        mem.wf ∧ (∀ x y, fbRead mem m x y = 0#32) ∧ ∀ a, Memory.read mem a = 0#8)

/-- FB_WRITE raises OutOfRange for the coordinate, then RangeError for the value, and otherwise stores p at (x, y): the
pixel reads back as p, every other pixel and every byte outside the pixel's own cells reads as before
(41_framebuffer.md R142; the read after the write is what it marks as derived under R140, and the bytes are the model's
placement, log entry 5). -/
def Obligations.FbWriteStoresOnePixel : Prop :=
  decodeCommand 0x00000002#32 = .fbWrite ∧
  ∀ (i : Instr) (s : State), i = .fbWrite ∨ i = .wrCmd 0x02#32 → s.fatal = false →
    let x := s.arg0.toNat % 65536
    let y := s.arg0.toNat / 65536
    (s.fbWidth.toNat ≤ x ∨ s.fbHeight.toNat ≤ y → exec i s = .next (failedWith s 4#8)) ∧
    (x < s.fbWidth.toNat → y < s.fbHeight.toNat → validPixel s.fbMode s.arg1 = false →
      exec i s = .next (failedWith s 3#8)) ∧
    (x < s.fbWidth.toNat → y < s.fbHeight.toNat → validPixel s.fbMode s.arg1 = true → s.fb.wf →
      ∃ mem, exec i s = .next { s with
          fb := mem, result := 0#8, responses := s.responses ++ [writeOkay] } ∧
        mem.wf ∧ fbRead mem s.fbMode x y = s.arg1 ∧
        (∀ x' y', x' < 65536 → (x', y') ≠ (x, y) →
          fbRead mem s.fbMode x' y' = fbRead s.fb s.fbMode x' y') ∧
        ∀ a, a < cellAddr x y 0 ∨ cellAddr x y 0 + s.fbMode.cells ≤ a →
          Memory.read mem a = Memory.read s.fb a)

/-- FB_READ raises OutOfRange for the coordinate, leaving RDATA, and otherwise sets RDATA to the pixel word; it changes
no pixel (41_framebuffer.md R143). -/
def Obligations.FbReadReturnsPixel : Prop :=
  decodeCommand 0x00000003#32 = .fbRead ∧
  ∀ (i : Instr) (s : State), i = .fbRead ∨ i = .wrCmd 0x03#32 → s.fatal = false →
    let x := s.arg0.toNat % 65536
    let y := s.arg0.toNat / 65536
    exec i s =
      if x < s.fbWidth.toNat ∧ y < s.fbHeight.toNat then
        .next { s with
          rdata := fbRead s.fb s.fbMode x y, result := 0#8, responses := s.responses ++ [writeOkay] }
      else .next (failedWith s 4#8)

/-- FB_FILL raises RangeError for a value outside the range of FB_MODE, and otherwise every pixel of the descriptor
reads as p and every byte outside the framebuffer's pixels reads as before; on the 0 x 0 framebuffer a valid value
succeeds (41_framebuffer.md R144; the bytes and their placement are the model's, log entries 5 and 11). -/
def Obligations.FbFillFillsEveryPixel : Prop :=
  decodeCommand 0x00000004#32 = .fbFill ∧
  ∀ (i : Instr) (s : State), i = .fbFill ∨ i = .wrCmd 0x04#32 → s.fatal = false →
    (validPixel s.fbMode s.arg1 = false → exec i s = .next (failedWith s 3#8)) ∧
    (validPixel s.fbMode s.arg1 = true → s.fb.wf →
      ∃ mem, exec i s = .next { s with
          fb := mem, result := 0#8, responses := s.responses ++ [writeOkay] } ∧
        mem.wf ∧
        (∀ x y, x < s.fbWidth.toNat → y < s.fbHeight.toNat → fbRead mem s.fbMode x y = s.arg1) ∧
        (∀ a, inFrame s.fbMode s.fbWidth.toNat s.fbHeight.toNat a = false →
          Memory.read mem a = Memory.read s.fb a) ∧
        (s.fbWidth = 0#16 ∧ s.fbHeight = 0#16 → mem = s.fb))

/-- The fill leaves exactly what the loop of 41_framebuffer.md R144 leaves: FbWrite at every pixel, rows from the top,
each from the left (log entry 11: the model fills in one pass). -/
def Obligations.FillIsTheLoopOfPixelWrites : Prop :=
  ∀ (mem : Memory) (m : ColorMode) (w h : Nat) (p : Word), mem.wf → w ≤ 65535 →
    fbFill mem m w h p = (allCoords w h).foldl (fun acc c => fbWrite acc m c.1 c.2 p) mem

/-- The bytes of a pixel hold its channels, element by element in order, and a pixel read is always a valid pixel of its
mode whatever the storage holds (41_framebuffer.md R140, R145; 20_memory.md R63). -/
def Obligations.StoredPixelsAreValid : Prop :=
  ∀ (mem : Memory) (m : ColorMode) (x y : Nat) (p : Word),
    validPixel m (fbRead mem m x y) = true ∧
    (mem.wf → x < 65536 → chan m (fbRead (fbWrite mem m x y p) m x y) = chan m p) ∧
    (chan m p).length = m.channels ∧ ∀ e ∈ chan m p, e.toNat < 2 ^ m.elemWidth

/-! ## Scan orders -/

/-- The k-th coordinate of each scan order's loops is its closed form, and the closed form of each order, by name, is
the one its rule gives (42_scan_order.md R172 to R177). -/
def Obligations.ScanLoopsHaveClosedForm : Prop :=
  (∀ (d : ScanOrder) (w h k : Nat), (d.isPageBased = true → h % 8 = 0) → k < w * h →
    (scanSeq d w h)[k]? = some (scanCoord d w h k)) ∧
  ∀ w h k : Nat,
    scanCoord .rowMajor w h k = (k % w, k / w) ∧
    scanCoord .rowMajorReversed w h k = (w - 1 - k % w, k / w) ∧
    scanCoord .columnMajor w h k = (k / h, k % h) ∧
    scanCoord .columnMajorReversed w h k = (k / h, h - 1 - k % h) ∧
    scanCoord .pageColumn w h k = (k % (8 * w) / 8, 8 * (k / (8 * w)) + k % (8 * w) % 8) ∧
    scanCoord .pageColumnReversed w h k = (k % (8 * w) / 8, 8 * (k / (8 * w)) + 7 - k % (8 * w) % 8)

/-- Each closed form is a bijection from the positions [0, W*H) onto the rectangle [0, W) x [0, H) (the property
that 42_scan_order.md marks as derived under R179). -/
def Obligations.ScanIsBijection : Prop :=
  ∀ (d : ScanOrder) (w h : Nat), 1 ≤ w → 1 ≤ h → (d.isPageBased = true → h % 8 = 0) →
    (∀ k, k < w * h → (scanCoord d w h k).1 < w ∧ (scanCoord d w h k).2 < h) ∧
    (∀ x y, x < w → y < h → ∃! k, k < w * h ∧ scanCoord d w h k = (x, y))

/-- A scan sequence lists W * H coordinates, every one in bounds and every one of the rectangle exactly once
(42_scan_order.md R170). -/
def Obligations.ScanSequenceListsEachCoordinateOnce : Prop :=
  ∀ (d : ScanOrder) (w h : Nat), (d.isPageBased = true → h % 8 = 0) →
    (scanSeq d w h).length = w * h ∧ (scanSeq d w h).Nodup ∧
    ∀ x y, (x, y) ∈ scanSeq d w h ↔ x < w ∧ y < h

/-- Positions 8j to 8j+7 of a page-based scan are the column j mod W of page j / W, rows ascending for by_page and
descending for by_page_reversed (what 42_scan_order.md marks as derived under R180). -/
def Obligations.PageGroupsAreColumns : Prop :=
  ∀ (w h j i : Nat), h % 8 = 0 → j < w * h / 8 → i < 8 →
    (scanSeq .pageColumn w h)[8 * j + i]? = some (j % w, 8 * (j / w) + i) ∧
    (scanSeq .pageColumnReversed w h)[8 * j + i]? = some (j % w, 8 * (j / w) + (7 - i))

/-! ## Bit coders -/

/-- Eight bits are packed into a byte: bits[i] at bit 7 - i under MSB and at bit i under LSB (43_bit_coder.md R191,
R192). -/
def Obligations.EncodeEightPlacesEachBit : Prop :=
  ∀ bits : List Nat, bits.length = 8 → (∀ b ∈ bits, b ≤ 1) →
    (∃ v, encode8 .msb bits = .ok v ∧ ∀ i, i < 8 → (v.getLsbD (7 - i)).toNat = bits.getD i 0) ∧
    (∃ v, encode8 .lsb bits = .ok v ∧ ∀ i, i < 8 → (v.getLsbD i).toNat = bits.getD i 0)

/-- LSB-first is the bit-reverse of MSB-first, where rev8 puts bit i at bit 7 - i (what
43_bit_coder.md marks as derived under R197). -/
def Obligations.LsbIsReverseOfMsb : Prop :=
  (∀ (b : Byte) (i : Nat), i < 8 → (rev8 b).getLsbD (7 - i) = b.getLsbD i) ∧
  ∀ bits : List Nat, bits.length = 8 → (∀ b ∈ bits, b ≤ 1) →
    ∃ v, encode8 .msb bits = .ok v ∧ encode8 .lsb bits = .ok (rev8 v)

/-- MSB-first encoding undoes decode_byte, and rev8 undoes itself (what 43_bit_coder.md marks as derived under R198). -/
def Obligations.MsbEncodeInvertsDecode : Prop :=
  ∀ b : Byte, encode8 .msb (decodeByte b) = .ok b ∧ rev8 (rev8 b) = b

/-- reencode_byte keeps a byte under MSB and reverses it under LSB (43_bit_coder.md R196). -/
def Obligations.ReencodeKeepsOrReverses : Prop :=
  ∀ b : Byte, reencodeByte .msb b = .ok b ∧ reencodeByte .lsb b = .ok (rev8 b)

/-- Coder misuse is a model fault, the arity checked first, and pad_to_8 pads with zeros on the right (43_bit_coder.md
R193, R194). -/
def Obligations.CoderMisuseIsModelFault : Prop :=
  ∀ (c : Coder) (bits : List Nat),
    (bits.length ≠ 8 → encode8 c bits = .error .modelFaultArityError) ∧
    (bits.length = 8 → (∃ b ∈ bits, 1 < b) → encode8 c bits = .error .modelFaultInvalidBitValue) ∧
    (8 < bits.length → padTo8 bits = .error .modelFaultArityError) ∧
    (bits.length ≤ 8 → ∃ g, padTo8 bits = .ok g ∧ g.length = 8 ∧ ∀ i, g.getD i 0 = bits.getD i 0)

/-! ## GENERATE -/

/-- GENERATE reports the first check that fails, in the order resolution, mode, page geometry, sets OUT_LEN to 0, emits
nothing and changes nothing else (44_modulator.md R211, R220). -/
def Obligations.GenerateReportsFirstFailedCheck : Prop :=
  ∀ (i : Instr) (s : State), i = .generate ∨ i = .wrCmd 0x10#32 → s.fatal = false →
    let mismatch := s.fbWidth.toNat ≠ s.cfgWidth.toNat ∨ s.fbHeight.toNat ≠ s.cfgHeight.toNat
    (mismatch → exec i s = .next (failedWith { s with outLen := 0#32 } 6#8)) ∧
    (¬ mismatch → s.cfgModes.getLsbD s.fbMode.code = false →
      exec i s = .next (failedWith { s with outLen := 0#32 } 7#8)) ∧
    (¬ mismatch → s.cfgModes.getLsbD s.fbMode.code = true →
      s.cfgScan = 4#32 ∨ s.cfgScan = 5#32 → s.cfgHeight.toNat % 8 ≠ 0 →
      exec i s = .next (failedWith { s with outLen := 0#32 } 8#8))

/-- Past the validation, a scan code above 5 or a bit-order code above 1 halts the core: RESULT 11, FATAL 1, OUT_LEN 0,
nothing emitted (44_modulator.md R212; 60_exceptions.md R247). -/
def Obligations.GenerateHaltsOnUnmappedCode : Prop :=
  ∀ (i : Instr) (s : State), i = .generate ∨ i = .wrCmd 0x10#32 → s.fatal = false →
    s.fbWidth.toNat = s.cfgWidth.toNat → s.fbHeight.toNat = s.cfgHeight.toNat →
    s.cfgModes.getLsbD s.fbMode.code = true →
    (s.cfgScan = 4#32 ∨ s.cfgScan = 5#32 → s.cfgHeight.toNat % 8 = 0) →
    5 < s.cfgScan.toNat ∨ 1 < s.cfgBitord.toNat →
    exec i s = .next (failedWith { s with outLen := 0#32, fatal := true } 11#8)

/-- When its checks pass GENERATE emits exactly one frame, of L(FB_MODE, N) bytes, sets OUT_LEN to that length modulo
2^32 and RESULT to 0, and changes nothing else (44_modulator.md R219; the lengths are what it marks as derived under R221). -/
def Obligations.GenerateEmitsOneFrame : Prop :=
  ∀ (i : Instr) (s : State) (d : ScanOrder) (c : Coder), i = .generate ∨ i = .wrCmd 0x10#32 → Ready s d c →
    ∃ frame, exec i s = .next (emitted s frame) ∧
      frame.length = match s.fbMode with
        | .mono => (pixelCount s + 7) / 8
        | .gray8 => pixelCount s
        | .rgb565 => 2 * pixelCount s
        | .rgb888 => 3 * pixelCount s
        | .rgba8888 => 4 * pixelCount s

/-- The mono frame bit by bit: bit i of group j is pixel 8j + i of the scan, zero past the last pixel, at bit 7 - i of
byte j under MSB and bit i under LSB (44_modulator.md R214, whose one formula for both paths it marks as derived). -/
def Obligations.MonoFrameBits : Prop :=
  ∀ (s : State) (d : ScanOrder) (c : Coder), Ready s d c → s.fbMode = .mono →
    ∃ frame, exec .generate s = .next (emitted s frame) ∧ frame.length = (pixelCount s + 7) / 8 ∧
      ∀ j i, j < frame.length → i < 8 →
        (frame.getD j 0#8).getLsbD (match c with | .msb => 7 - i | .lsb => i) =
          if 8 * j + i < pixelCount s then (pixelAt s d (8 * j + i)).getLsbD 0 else false

/-- The gray frame: byte k is pixel k of the scan, under both bit orders; a stored pixel is at most 0xFF, so the mask
to 8 bits is the identity (44_modulator.md R215). -/
def Obligations.GrayFrameBytes : Prop :=
  ∀ (s : State) (d : ScanOrder) (c : Coder), Ready s d c → s.fbMode = .gray8 →
    ∃ frame, exec .generate s = .next (emitted s frame) ∧ frame.length = pixelCount s ∧
      ∀ k, k < pixelCount s → frame[k]? = some ((pixelAt s d k).extractLsb' 0 8) ∧ (pixelAt s d k).toNat ≤ 0xFF

/-- The RGB565 frame: each pixel's high byte, then its low byte, under both bit orders (44_modulator.md R216). -/
def Obligations.Rgb565FrameBytes : Prop :=
  ∀ (s : State) (d : ScanOrder) (c : Coder), Ready s d c → s.fbMode = .rgb565 →
    ∃ frame, exec .generate s = .next (emitted s frame) ∧ frame.length = 2 * pixelCount s ∧
      ∀ k, k < pixelCount s →
        frame[2 * k]? = some ((pixelAt s d k).extractLsb' 8 8) ∧
        frame[2 * k + 1]? = some ((pixelAt s d k).extractLsb' 0 8)

/-- The RGB888 frame: each pixel's R, G, B, each byte in the bit order (44_modulator.md R217). -/
def Obligations.Rgb888FrameBytes : Prop :=
  ∀ (s : State) (d : ScanOrder) (c : Coder), Ready s d c → s.fbMode = .rgb888 →
    ∃ frame, exec .generate s = .next (emitted s frame) ∧ frame.length = 3 * pixelCount s ∧
      ∀ k, k < pixelCount s →
        frame[3 * k]? = some (inBitOrder c ((pixelAt s d k).extractLsb' 16 8)) ∧
        frame[3 * k + 1]? = some (inBitOrder c ((pixelAt s d k).extractLsb' 8 8)) ∧
        frame[3 * k + 2]? = some (inBitOrder c ((pixelAt s d k).extractLsb' 0 8))

/-- The RGBA8888 frame: each pixel's R, G, B, A, each byte in the bit order, alpha last (44_modulator.md R218). -/
def Obligations.Rgba8888FrameBytes : Prop :=
  ∀ (s : State) (d : ScanOrder) (c : Coder), Ready s d c → s.fbMode = .rgba8888 →
    ∃ frame, exec .generate s = .next (emitted s frame) ∧ frame.length = 4 * pixelCount s ∧
      ∀ k, k < pixelCount s →
        frame[4 * k]? = some (inBitOrder c ((pixelAt s d k).extractLsb' 24 8)) ∧
        frame[4 * k + 1]? = some (inBitOrder c ((pixelAt s d k).extractLsb' 16 8)) ∧
        frame[4 * k + 2]? = some (inBitOrder c ((pixelAt s d k).extractLsb' 8 8)) ∧
        frame[4 * k + 3]? = some (inBitOrder c ((pixelAt s d k).extractLsb' 0 8))

/-- GENERATE is a function of the framebuffer and the five CFG registers it reads: running states that agree on them
emit the same frames and report the same, whatever their calibration offsets and other registers (44_modulator.md R222,
R223). -/
def Obligations.FrameDependsOnlyOnFramebufferAndConfig : Prop :=
  ∀ s t s' t' : State, s.fatal = false → t.fatal = false →
    s.fbWidth = t.fbWidth → s.fbHeight = t.fbHeight → s.fbMode = t.fbMode → s.fb = t.fb →
    s.cfgWidth = t.cfgWidth → s.cfgHeight = t.cfgHeight → s.cfgModes = t.cfgModes →
    s.cfgScan = t.cfgScan → s.cfgBitord = t.cfgBitord →
    exec .generate s = .next s' → exec .generate t = .next t' →
    lastResponse s' = lastResponse t' ∧ s'.result = t'.result ∧ s'.fatal = t'.fatal ∧ s'.outLen = t'.outLen ∧
    ∃ new, s'.out = s.out ++ new ∧ t'.out = t.out ++ new

/-- A mono panel set to by_page with lsb_first and one set to by_page_reversed with msb_first get the same frame
(93_implementation_defined.md G2, from 42_scan_order.md R180 and 43_bit_coder.md R197). -/
def Obligations.PageLsbEqualsReversedPageMsb : Prop :=
  ∀ s : State, s.fbMode = .mono → Ready { s with cfgScan := 4#32, cfgBitord := 1#32 } .pageColumn .lsb →
    ∃ frame,
      exec .generate { s with cfgScan := 4#32, cfgBitord := 1#32 } =
        .next (emitted { s with cfgScan := 4#32, cfgBitord := 1#32 } frame) ∧
      exec .generate { s with cfgScan := 5#32, cfgBitord := 0#32 } =
        .next (emitted { s with cfgScan := 5#32, cfgBitord := 0#32 } frame)

/-! ## The whole machine -/

/-- Every instruction answers a next state, and so does every step: no model fault and no refusal is reachable, from any
state at all (43_bit_coder.md R193; 60_exceptions.md R249). -/
def Obligations.EveryAccessCompletes : Prop :=
  (∀ (i : Instr) (s : State), Proceeds (exec i s)) ∧ ∀ s : State, Proceeds (step s)

/-- The invariant that 10_state.md marks as derived under R55 to R57, with the storage's own form (log entries 5 and
6), is kept by every step, from every state that has it. -/
def Obligations.StepKeepsInvariant : Prop :=
  ∀ s t : State, CoreInv s → step s = .next t → CoreInv t

/-- The reset state has the invariant. -/
def Obligations.ResetHasInvariant : Prop := CoreInv State.reset

/-- FATAL is set only with RESULT = 11 (what 10_state.md marks as derived under R57), and RESULT holds a code of 0 to
13 (60_exceptions.md R257): each is kept by every step from every state that has it, halted ones too. -/
def Obligations.StepKeepsStatusInvariant : Prop :=
  ∀ s t : State, step s = .next t →
    (StatusInv s → StatusInv t) ∧ (s.result.toNat ≤ 13 → t.result.toNat ≤ 13)

/-- An operation write on a running core ends OKAY with RESULT 0 or ERROR with RESULT a code other than 0, and the code
is one of those an access can raise (30_encoding.md R81; 40_config.md R110, R111; 60_exceptions.md R242). -/
def Obligations.OperationWritesReportInResult : Prop :=
  ∀ (i : Instr) (s t : State), accessClass i = .operationWrite → s.fatal = false → exec i s = .next t →
    (lastResponse t = some writeOkay ∧ t.result = 0#8) ∨
    (lastResponse t = some writeError ∧ t.result.toNat ∈ [2, 3, 4, 6, 7, 8, 11, 13])

/-- A failed access changes nothing but STATUS, and OUT_LEN for GENERATE (60_exceptions.md R240, R243). -/
def Obligations.FailedAccessChangesOnlyStatus : Prop :=
  ∀ (i : Instr) (s t : State) (r : Response), exec i s = .next t → lastResponse t = some r → r.resp = .error →
    t = { s with result := t.result, fatal := t.fatal, outLen := t.outLen, responses := s.responses ++ [r] } ∧
    (commandOf i ≠ .generate → t.outLen = s.outLen ∧ t.fatal = s.fatal)

/-- Each piece of state is written only by the instructions the spec gives it: no read and no storage write for RESULT,
the setters for CFG_*, WR ARG0 and WR ARG1, FB_READ for RDATA, FB_SETUP for the descriptor, the framebuffer commands for
the pixels, GENERATE for OUT_LEN, FATAL and the stream (10_state.md R32 to R49). -/
def Obligations.OnlyOwnersWriteState : Prop :=
  ∀ (i : Instr) (s t : State), exec i s = .next t →
    (accessClass i = .read ∨ accessClass i = .refusedRead ∨ accessClass i = .storageWrite → t.result = s.result) ∧
    ((∀ d, i ≠ .wrArg0 d) → t.arg0 = s.arg0) ∧ ((∀ d, i ≠ .wrArg1 d) → t.arg1 = s.arg1) ∧
    (setterOf i ≠ some .cfgWidth → t.cfgWidth = s.cfgWidth) ∧
    (setterOf i ≠ some .cfgHeight → t.cfgHeight = s.cfgHeight) ∧
    (setterOf i ≠ some .cfgModes → t.cfgModes = s.cfgModes) ∧
    (setterOf i ≠ some .cfgScan → t.cfgScan = s.cfgScan) ∧
    (setterOf i ≠ some .cfgBitord → t.cfgBitord = s.cfgBitord) ∧
    (setterOf i ≠ some .cfgRowOffset → t.cfgRowOffset = s.cfgRowOffset) ∧
    (setterOf i ≠ some .cfgColOffset → t.cfgColOffset = s.cfgColOffset) ∧
    (commandOf i ≠ .fbRead → t.rdata = s.rdata) ∧
    (commandOf i ≠ .fbSetup → t.fbWidth = s.fbWidth ∧ t.fbHeight = s.fbHeight ∧ t.fbMode = s.fbMode) ∧
    (commandOf i ≠ .fbSetup → commandOf i ≠ .fbWrite → commandOf i ≠ .fbFill → t.fb = s.fb) ∧
    (commandOf i ≠ .generate → t.outLen = s.outLen ∧ t.fatal = s.fatal ∧ t.out = s.out) ∧
    t.params = s.params ∧ t.inputs = s.inputs

/-- The output stream is append-only: GENERATE appends at most one frame, and every step but a reset keeps all that
was emitted (10_state.md R49). -/
def Obligations.OutputStreamIsAppendOnly : Prop :=
  (∀ (i : Instr) (s t : State), exec i s = .next t →
    ∃ new, t.out = s.out ++ new ∧ new.length ≤ 1 ∧ (new ≠ [] → commandOf i = .generate)) ∧
  ∀ s t : State, step s = .next t → (∀ rest, s.inputs ≠ .reset :: rest) → ∃ new, t.out = s.out ++ new

/-- The pseudo-instructions SETUP, PIX, PEEK, FILL and GEN, presented as their accesses to a running core, run their
command on the operands they name, PEEK then reading RDATA; CHECK, on any core, reads STATUS (30_encoding.md R95). -/
def Obligations.PseudoInstructionsRunTheirCommand : Prop :=
  (∀ (s : State) (rest : List Input) (a b : BitVec 16) (p : Word), s.fatal = false →
    (Host.Core.run core 3 { s with inputs := (Pseudo.setup a b p).expand.map .access ++ rest } =
      exec .fbSetup { s with
        arg0 := b ++ a, arg1 := p, inputs := rest, responses := s.responses ++ [writeOkay, writeOkay] }) ∧
    (Host.Core.run core 3 { s with inputs := (Pseudo.pix a b p).expand.map .access ++ rest } =
      exec .fbWrite { s with
        arg0 := b ++ a, arg1 := p, inputs := rest, responses := s.responses ++ [writeOkay, writeOkay] }) ∧
    (∃ t, exec .fbRead { s with
        arg0 := b ++ a, inputs := rest, responses := s.responses ++ [writeOkay] } = .next t ∧
      Host.Core.run core 3 { s with inputs := (Pseudo.peek a b).expand.map .access ++ rest } =
        .next { t with responses := t.responses ++ [{ resp := .okay, rdata := some t.rdata }] }) ∧
    (Host.Core.run core 2 { s with inputs := (Pseudo.fill p).expand.map .access ++ rest } =
      exec .fbFill { s with arg1 := p, inputs := rest, responses := s.responses ++ [writeOkay] }) ∧
    Host.Core.run core 1 { s with inputs := Pseudo.gen.expand.map .access ++ rest } =
      exec .generate { s with inputs := rest }) ∧
  ∀ (s : State) (rest : List Input),
    Host.Core.run core 1 { s with inputs := Pseudo.check.expand.map .access ++ rest } =
      .next { s with
        inputs := rest,
        responses := s.responses ++
          [{ resp := .okay, rdata := some (0#23 ++ BitVec.ofBool s.fatal ++ s.result) }] }

/-! ## Codes and pixel values -/

/-- The code tables: the colour modes, the scan orders with their page-based ones, and the bit coders, each code by its
name, and no name for any other code (30_encoding.md R86, R87, R89). -/
def Obligations.CodesNameTheirModesAndStrategies : Prop :=
  (ColorMode.mono.code = 0 ∧ ColorMode.gray8.code = 1 ∧ ColorMode.rgb565.code = 2 ∧ ColorMode.rgb888.code = 3 ∧
    ColorMode.rgba8888.code = 4) ∧
  (ColorMode.ofCode 0#32 = some .mono ∧ ColorMode.ofCode 1#32 = some .gray8 ∧ ColorMode.ofCode 2#32 = some .rgb565 ∧
    ColorMode.ofCode 3#32 = some .rgb888 ∧ ColorMode.ofCode 4#32 = some .rgba8888 ∧
    ∀ w : Word, 4 < w.toNat → ColorMode.ofCode w = none) ∧
  (ScanOrder.ofCode 0#32 = some .rowMajor ∧ ScanOrder.ofCode 1#32 = some .rowMajorReversed ∧
    ScanOrder.ofCode 2#32 = some .columnMajor ∧ ScanOrder.ofCode 3#32 = some .columnMajorReversed ∧
    ScanOrder.ofCode 4#32 = some .pageColumn ∧ ScanOrder.ofCode 5#32 = some .pageColumnReversed ∧
    ∀ w : Word, 5 < w.toNat → ScanOrder.ofCode w = none) ∧
  (∀ d : ScanOrder, d.isPageBased = true ↔ d = .pageColumn ∨ d = .pageColumnReversed) ∧
  (Coder.ofCode 0#32 = some .msb ∧ Coder.ofCode 1#32 = some .lsb ∧
    ∀ w : Word, 1 < w.toNat → Coder.ofCode w = none)

/-- The valid pixel words, the zero pixel and the channels of each mode; FB_FILL, and FB_WRITE in bounds, refuse a word
above the mode's range and never mask it (41_framebuffer.md R145, R146, R147). -/
def Obligations.PixelRangesAndChannels : Prop :=
  (∀ p : Word,
    (validPixel .mono p = true ↔ p.toNat ≤ 0x1) ∧ (validPixel .gray8 p = true ↔ p.toNat ≤ 0xFF) ∧
    (validPixel .rgb565 p = true ↔ p.toNat ≤ 0xFFFF) ∧ (validPixel .rgb888 p = true ↔ p.toNat ≤ 0xFFFFFF) ∧
    validPixel .rgba8888 p = true) ∧
  (∀ m : ColorMode, zeroPixel m = 0#32) ∧
  (∀ p : Word,
    (chan .mono p).map BitVec.toNat = [p.toNat % 2] ∧
    (chan .gray8 p).map BitVec.toNat = [p.toNat % 256] ∧
    (chan .rgb565 p).map BitVec.toNat = [p.toNat % 65536] ∧
    (chan .rgb888 p).map BitVec.toNat = [p.toNat / 65536 % 256, p.toNat / 256 % 256, p.toNat % 256] ∧
    (chan .rgba8888 p).map BitVec.toNat =
      [p.toNat / 16777216, p.toNat / 65536 % 256, p.toNat / 256 % 256, p.toNat % 256]) ∧
  ∀ s : State, s.fatal = false →
    (match s.fbMode with
      | .mono => 0x1
      | .gray8 => 0xFF
      | .rgb565 => 0xFFFF
      | .rgb888 => 0xFFFFFF
      | .rgba8888 => 0xFFFFFFFF) < s.arg1.toNat →
    exec .fbFill s = .next (failedWith s 3#8) ∧
    (s.arg0.toNat % 65536 < s.fbWidth.toNat → s.arg0.toNat / 65536 < s.fbHeight.toNat →
      exec .fbWrite s = .next (failedWith s 3#8))
end

