-- ==== Sys2Proof/Laws/Memory.lean ====
section
/-! SUPPORT. The laws of the framebuffer's storage: what a read finds after each operation, that every operation keeps
the canonical form, and that canonical memories with the same bytes are the same data. -/

namespace Sys2Proof.Machine

/-! ## Reads -/

theorem Memory.read_of_lt {m : Memory} {a : Nat} (h : ∀ c ∈ m, a < c.1) : Memory.read m a = 0#8 := by
  cases m with
  | nil => rfl
  | cons c m =>
    have hc : a < c.1 := h c (List.mem_cons_self ..)
    simp [Memory.read, Nat.ne_of_lt hc, hc]

theorem Memory.wf_tail {c : Host.Cell} {m : Memory} (h : Memory.wf (c :: m)) : Memory.wf m :=
  ⟨(List.pairwise_cons.mp h.1).2, fun d hd => h.2 d (List.mem_cons_of_mem _ hd)⟩

theorem Memory.wf_head_lt {c : Host.Cell} {m : Memory} (h : Memory.wf (c :: m)) : ∀ d ∈ m, c.1 < d.1 :=
  (List.pairwise_cons.mp h.1).1

/-- A listed cell is what a read of its address finds. -/
theorem Memory.read_mem {m : Memory} (h : m.wf) {c : Host.Cell} (hc : c ∈ m) : Memory.read m c.1 = c.2 := by
  induction m with
  | nil => cases hc
  | cons d m ih =>
    rcases List.mem_cons.mp hc with rfl | hm
    · simp [Memory.read]
    · have hlt := Memory.wf_head_lt h c hm
      have h1 : c.1 ≠ d.1 := by omega
      have h2 : ¬ c.1 < d.1 := by omega
      simp [Memory.read, h1, h2, ih (Memory.wf_tail h) hm]

/-- A byte that is not zero is listed. -/
theorem Memory.mem_of_read_ne {m : Memory} {a : Nat} (h : Memory.read m a ≠ 0#8) : (a, Memory.read m a) ∈ m := by
  induction m with
  | nil => exact absurd rfl h
  | cons d m ih =>
    obtain ⟨b, v⟩ := d
    simp only [Memory.read] at h ⊢
    split at h
    · rename_i hab
      subst hab
      simp
    · rename_i hab
      split at h
      · exact absurd rfl h
      · rename_i hlt
        simp only [hab, hlt, if_false]
        exact List.mem_cons_of_mem _ (ih h)

/-- Canonical memories that read alike everywhere are equal. -/
theorem Memory.ext_read {m n : Memory} (hm : m.wf) (hn : n.wf) (h : ∀ a, Memory.read m a = Memory.read n a) :
    m = n := by
  have mem_iff : ∀ c : Host.Cell, c ∈ m ↔ c ∈ n := by
    intro c
    constructor
    · intro hc
      have hr := Memory.read_mem hm hc
      have hne : Memory.read n c.1 ≠ 0#8 := by rw [← h, hr]; exact hm.2 c hc
      have := Memory.mem_of_read_ne hne
      rwa [← h, hr] at this
    · intro hc
      have hr := Memory.read_mem hn hc
      have hne : Memory.read m c.1 ≠ 0#8 := by rw [h, hr]; exact hn.2 c hc
      have := Memory.mem_of_read_ne hne
      rwa [h, hr] at this
  have nodup : ∀ {l : Memory}, l.wf → l.Nodup := fun hl =>
    hl.1.imp (fun hab hc => by simp [hc] at hab)
  have hperm : m.Perm n := (List.perm_ext_iff_of_nodup (nodup hm) (nodup hn)).mpr mem_iff
  exact hperm.eq_of_pairwise (fun a b _ _ h1 h2 => absurd h1 (Nat.lt_asymm h2)) hm.1 hn.1

/-! ## One byte stored -/

theorem Memory.mem_write {m : Memory} {a : Nat} {v : Byte} {c : Host.Cell} (h : c ∈ Memory.write m a v) :
    c = (a, v) ∧ v ≠ 0#8 ∨ c ∈ m := by
  induction m with
  | nil =>
    simp only [Memory.write] at h
    split at h <;> simp_all
  | cons d m ih =>
    simp only [Memory.write] at h
    split at h
    · split at h <;> simp_all
    · split at h
      · split at h
        · exact .inr (List.mem_cons_of_mem _ h)
        · rename_i hv
          rcases List.mem_cons.mp h with rfl | h
          · exact .inl ⟨rfl, hv⟩
          · exact .inr (List.mem_cons_of_mem _ h)
      · rcases List.mem_cons.mp h with rfl | h
        · simp
        · rcases ih h with h | h
          · exact .inl h
          · exact .inr (List.mem_cons_of_mem _ h)

/-- A store keeps the canonical form. -/
theorem Memory.write_wf {m : Memory} (h : m.wf) (a : Nat) (v : Byte) : (Memory.write m a v).wf := by
  induction m with
  | nil =>
    simp only [Memory.write]
    split <;> simp_all [Memory.wf]
  | cons d m ih =>
    obtain ⟨b, u⟩ := d
    have ht := Memory.wf_tail h
    have hb := Memory.wf_head_lt h
    have hu : u ≠ 0#8 := h.2 (b, u) (List.mem_cons_self ..)
    simp only [Memory.write]
    split
    · rename_i hab
      split
      · exact h
      · rename_i hv
        refine ⟨List.pairwise_cons.mpr ⟨?_, h.1⟩, ?_⟩
        · intro c hc
          rcases List.mem_cons.mp hc with rfl | hc
          · exact hab
          · exact Nat.lt_trans hab (hb c hc)
        · intro c hc
          rcases List.mem_cons.mp hc with rfl | hc
          · exact hv
          · exact h.2 c hc
    · split
      · rename_i hab
        subst hab
        split
        · exact ht
        · rename_i hv
          refine ⟨List.pairwise_cons.mpr ⟨hb, ht.1⟩, ?_⟩
          intro c hc
          rcases List.mem_cons.mp hc with rfl | hc
          · exact hv
          · exact ht.2 c hc
      · rename_i h1 h2
        have hw := ih ht
        refine ⟨List.pairwise_cons.mpr ⟨?_, hw.1⟩, ?_⟩
        · intro c hc
          rcases Memory.mem_write hc with ⟨rfl, _⟩ | hc
          · show b < a
            omega
          · exact hb c hc
        · intro c hc
          rcases List.mem_cons.mp hc with rfl | hc
          · exact hu
          · exact hw.2 c hc

/-- What a read finds after a store: the value at its address, and elsewhere what stood there. -/
theorem Memory.read_write {m : Memory} (h : m.wf) (a : Nat) (v : Byte) (b : Nat) :
    Memory.read (Memory.write m a v) b = if b = a then v else Memory.read m b := by
  induction m with
  | nil =>
    simp only [Memory.write]
    split <;> simp_all [Memory.read]
  | cons d m ih =>
    obtain ⟨e, u⟩ := d
    have ht := Memory.wf_tail h
    have hlt := Memory.wf_head_lt h
    simp only [Memory.write]
    split
    · rename_i hae
      split
      · rename_i hv
        by_cases hba : b = a
        · subst hba
          have : b ≠ e := by omega
          simp [Memory.read, this, hae, hv]
        · simp [hba]
      · by_cases hba : b = a
        · simp [Memory.read, hba]
        · simp only [Memory.read, hba, if_false]
          by_cases hb : b < a
          · have h1 : b ≠ e := by omega
            have h2 : b < e := by omega
            simp [hb, h1, h2]
          · simp [hb]
    · split
      · rename_i hae
        subst hae
        split
        · rename_i hv
          by_cases hba : b = a
          · subst hba
            simp [hv, Memory.read_of_lt (fun c hc => hlt c hc)]
          · simp only [Memory.read, hba, if_false]
            by_cases hb : b < a
            · simp [hb, Memory.read_of_lt (fun c hc => Nat.lt_trans hb (hlt c hc))]
            · simp [hb]
        · by_cases hba : b = a <;> simp [Memory.read, hba]
      · rename_i h1 h2
        simp only [Memory.read, ih ht]
        by_cases hbe : b = e
        · have : b ≠ a := by omega
          simp [hbe, show e ≠ a by omega]
        · by_cases hb : b < e
          · simp [hbe, hb, show b ≠ a by omega]
          · simp [hbe, hb]

/-! ## Bytes stored in a row -/

theorem Memory.writeBytes_wf {m : Memory} (h : m.wf) (a : Nat) (vs : List Byte) : (m.writeBytes a vs).wf := by
  induction vs generalizing m a with
  | nil => exact h
  | cons v vs ih => exact ih (Memory.write_wf h a v) (a + 1)

/-- What a read finds after a row of stores: the byte of its place in the row, and outside the row what stood there. -/
theorem Memory.read_writeBytes {m : Memory} (h : m.wf) (a : Nat) (vs : List Byte) (b : Nat) :
    Memory.read (m.writeBytes a vs) b = if a ≤ b then (vs[b - a]?).getD (Memory.read m b) else Memory.read m b := by
  induction vs generalizing m a with
  | nil => simp [Memory.writeBytes]
  | cons v vs ih =>
    simp only [Memory.writeBytes]
    rw [ih (Memory.write_wf h a v) (a + 1), Memory.read_write h]
    by_cases hab : a ≤ b
    · by_cases hba : b = a
      · subst hba
        simp
      · have h1 : a + 1 ≤ b := by omega
        have h2 : b - a = (b - (a + 1)) + 1 := by omega
        simp [hab, h1, hba, h2]
    · have h1 : ¬ a + 1 ≤ b := by omega
      have h2 : b ≠ a := by omega
      simp [hab, h1, h2]

/-! ## Cells dropped by their address -/

theorem Memory.filter_wf {m : Memory} (h : m.wf) (q : Host.Cell → Bool) : Memory.wf (m.filter q) :=
  ⟨h.1.filter q, fun c hc => h.2 c (List.mem_filter.mp hc).1⟩

theorem Memory.read_filter {m : Memory} (h : m.wf) (q : Nat → Bool) (a : Nat) :
    Memory.read (m.filter fun c => q c.1) a = if q a then Memory.read m a else 0#8 := by
  by_cases hr : Memory.read (m.filter fun c => q c.1) a = 0#8
  · rw [hr]
    split
    · rename_i hq
      by_contra hne
      have hmem := Memory.mem_of_read_ne (m := m) (a := a) (fun h0 => hne h0.symm)
      have := Memory.read_mem (Memory.filter_wf h fun c => q c.1) (List.mem_filter.mpr ⟨hmem, hq⟩)
      exact hne (hr ▸ this)
    · rfl
  · have hmem := List.mem_filter.mp (Memory.mem_of_read_ne hr)
    rw [if_pos hmem.2]
    exact (Memory.read_mem h hmem.1).symm

/-! ## Pixels -/

theorem pixelBytes_length (m : ColorMode) (p : Word) : (pixelBytes m p).length = m.cells := by
  cases m <;> rfl

/-- A pixel store keeps the canonical form. -/
theorem fbWrite_wf {mem : Memory} (h : mem.wf) (m : ColorMode) (x y : Nat) (p : Word) : (fbWrite mem m x y p).wf :=
  Memory.writeBytes_wf h _ _

/-- What a byte read finds after a pixel store. -/
theorem read_fbWrite {mem : Memory} (h : mem.wf) (m : ColorMode) (x y : Nat) (p : Word) (a : Nat) :
    Memory.read (fbWrite mem m x y p) a =
      if cellAddr x y 0 ≤ a then ((pixelBytes m p)[a - cellAddr x y 0]?).getD (Memory.read mem a)
      else Memory.read mem a :=
  Memory.read_writeBytes h _ _ a

/-- A pixel store leaves every byte outside its own cells alone. -/
theorem read_fbWrite_outside {mem : Memory} (h : mem.wf) (m : ColorMode) (x y : Nat) (p : Word) (a : Nat)
    (ha : a < cellAddr x y 0 ∨ cellAddr x y 0 + m.cells ≤ a) :
    Memory.read (fbWrite mem m x y p) a = Memory.read mem a := by
  rw [read_fbWrite h]
  split
  · have : (pixelBytes m p)[a - cellAddr x y 0]? = none := by
      rw [List.getElem?_eq_none_iff, pixelBytes_length]; omega
    simp [this]
  · rfl

/-- The fill keeps the canonical form. -/
theorem fbFill_wf {mem : Memory} (h : mem.wf) (m : ColorMode) (w ht : Nat) (p : Word) :
    (fbFill mem m w ht p).wf := by
  unfold fbFill
  generalize allCoords w ht = l
  induction l with
  | nil => exact Memory.filter_wf h _
  | cons c l ih => exact fbWrite_wf ih m c.1 c.2 p

theorem fbCleared_wf : Memory.wf fbCleared := ⟨List.Pairwise.nil, fun _ hc => absurd hc List.not_mem_nil⟩

/-- The storage of the reset state has the canonical form. -/
theorem reset_fb_wf : State.reset.fb.wf := fbCleared_wf

/-- Every pixel of the cleared storage is the zero pixel. -/
theorem fbRead_cleared (m : ColorMode) (x y : Nat) : fbRead fbCleared m x y = zeroPixel m := by
  cases m <;> simp [fbRead, fbCleared, Memory.read, zeroPixel]

end Sys2Proof.Machine
end

