-- ==== Sys2Proof/Laws/State.lean ====
section
/-! SUPPORT. One lemma per field per update of State, each true by rfl: what the completion of an access, an error, the
halt and a committed frame leave in every field. Later proofs cite these and unfold no record update. -/

namespace Sys2Proof.Machine

/-! ## respond -/

@[simp] theorem respond_result (r : Response) (s : State) : (respond r s).result = s.result := rfl
@[simp] theorem respond_fatal (r : Response) (s : State) : (respond r s).fatal = s.fatal := rfl
@[simp] theorem respond_arg0 (r : Response) (s : State) : (respond r s).arg0 = s.arg0 := rfl
@[simp] theorem respond_arg1 (r : Response) (s : State) : (respond r s).arg1 = s.arg1 := rfl
@[simp] theorem respond_rdata (r : Response) (s : State) : (respond r s).rdata = s.rdata := rfl
@[simp] theorem respond_outLen (r : Response) (s : State) : (respond r s).outLen = s.outLen := rfl
@[simp] theorem respond_cfgWidth (r : Response) (s : State) : (respond r s).cfgWidth = s.cfgWidth := rfl
@[simp] theorem respond_cfgHeight (r : Response) (s : State) : (respond r s).cfgHeight = s.cfgHeight := rfl
@[simp] theorem respond_cfgModes (r : Response) (s : State) : (respond r s).cfgModes = s.cfgModes := rfl
@[simp] theorem respond_cfgScan (r : Response) (s : State) : (respond r s).cfgScan = s.cfgScan := rfl
@[simp] theorem respond_cfgBitord (r : Response) (s : State) : (respond r s).cfgBitord = s.cfgBitord := rfl
@[simp] theorem respond_cfgRowOffset (r : Response) (s : State) : (respond r s).cfgRowOffset = s.cfgRowOffset := rfl
@[simp] theorem respond_cfgColOffset (r : Response) (s : State) : (respond r s).cfgColOffset = s.cfgColOffset := rfl
@[simp] theorem respond_fbWidth (r : Response) (s : State) : (respond r s).fbWidth = s.fbWidth := rfl
@[simp] theorem respond_fbHeight (r : Response) (s : State) : (respond r s).fbHeight = s.fbHeight := rfl
@[simp] theorem respond_fbMode (r : Response) (s : State) : (respond r s).fbMode = s.fbMode := rfl
@[simp] theorem respond_fb (r : Response) (s : State) : (respond r s).fb = s.fb := rfl
@[simp] theorem respond_out (r : Response) (s : State) : (respond r s).out = s.out := rfl
@[simp] theorem respond_params (r : Response) (s : State) : (respond r s).params = s.params := rfl
@[simp] theorem respond_inputs (r : Response) (s : State) : (respond r s).inputs = s.inputs := rfl
@[simp] theorem respond_responses (r : Response) (s : State) : (respond r s).responses = s.responses ++ [r] := rfl

/-! ## readDone -/

@[simp] theorem readDone_result (v : Word) (s : State) : (readDone v s).result = s.result := rfl
@[simp] theorem readDone_fatal (v : Word) (s : State) : (readDone v s).fatal = s.fatal := rfl
@[simp] theorem readDone_arg0 (v : Word) (s : State) : (readDone v s).arg0 = s.arg0 := rfl
@[simp] theorem readDone_arg1 (v : Word) (s : State) : (readDone v s).arg1 = s.arg1 := rfl
@[simp] theorem readDone_rdata (v : Word) (s : State) : (readDone v s).rdata = s.rdata := rfl
@[simp] theorem readDone_outLen (v : Word) (s : State) : (readDone v s).outLen = s.outLen := rfl
@[simp] theorem readDone_cfgWidth (v : Word) (s : State) : (readDone v s).cfgWidth = s.cfgWidth := rfl
@[simp] theorem readDone_cfgHeight (v : Word) (s : State) : (readDone v s).cfgHeight = s.cfgHeight := rfl
@[simp] theorem readDone_cfgModes (v : Word) (s : State) : (readDone v s).cfgModes = s.cfgModes := rfl
@[simp] theorem readDone_cfgScan (v : Word) (s : State) : (readDone v s).cfgScan = s.cfgScan := rfl
@[simp] theorem readDone_cfgBitord (v : Word) (s : State) : (readDone v s).cfgBitord = s.cfgBitord := rfl
@[simp] theorem readDone_cfgRowOffset (v : Word) (s : State) : (readDone v s).cfgRowOffset = s.cfgRowOffset := rfl
@[simp] theorem readDone_cfgColOffset (v : Word) (s : State) : (readDone v s).cfgColOffset = s.cfgColOffset := rfl
@[simp] theorem readDone_fbWidth (v : Word) (s : State) : (readDone v s).fbWidth = s.fbWidth := rfl
@[simp] theorem readDone_fbHeight (v : Word) (s : State) : (readDone v s).fbHeight = s.fbHeight := rfl
@[simp] theorem readDone_fbMode (v : Word) (s : State) : (readDone v s).fbMode = s.fbMode := rfl
@[simp] theorem readDone_fb (v : Word) (s : State) : (readDone v s).fb = s.fb := rfl
@[simp] theorem readDone_out (v : Word) (s : State) : (readDone v s).out = s.out := rfl
@[simp] theorem readDone_params (v : Word) (s : State) : (readDone v s).params = s.params := rfl
@[simp] theorem readDone_inputs (v : Word) (s : State) : (readDone v s).inputs = s.inputs := rfl
@[simp] theorem readDone_responses (v : Word) (s : State) :
    (readDone v s).responses = s.responses ++ [{ resp := .okay, rdata := some v }] := rfl

/-! ## readRefused -/

@[simp] theorem readRefused_result (s : State) : (readRefused s).result = s.result := rfl
@[simp] theorem readRefused_fatal (s : State) : (readRefused s).fatal = s.fatal := rfl
@[simp] theorem readRefused_arg0 (s : State) : (readRefused s).arg0 = s.arg0 := rfl
@[simp] theorem readRefused_arg1 (s : State) : (readRefused s).arg1 = s.arg1 := rfl
@[simp] theorem readRefused_rdata (s : State) : (readRefused s).rdata = s.rdata := rfl
@[simp] theorem readRefused_outLen (s : State) : (readRefused s).outLen = s.outLen := rfl
@[simp] theorem readRefused_cfgWidth (s : State) : (readRefused s).cfgWidth = s.cfgWidth := rfl
@[simp] theorem readRefused_cfgHeight (s : State) : (readRefused s).cfgHeight = s.cfgHeight := rfl
@[simp] theorem readRefused_cfgModes (s : State) : (readRefused s).cfgModes = s.cfgModes := rfl
@[simp] theorem readRefused_cfgScan (s : State) : (readRefused s).cfgScan = s.cfgScan := rfl
@[simp] theorem readRefused_cfgBitord (s : State) : (readRefused s).cfgBitord = s.cfgBitord := rfl
@[simp] theorem readRefused_cfgRowOffset (s : State) : (readRefused s).cfgRowOffset = s.cfgRowOffset := rfl
@[simp] theorem readRefused_cfgColOffset (s : State) : (readRefused s).cfgColOffset = s.cfgColOffset := rfl
@[simp] theorem readRefused_fbWidth (s : State) : (readRefused s).fbWidth = s.fbWidth := rfl
@[simp] theorem readRefused_fbHeight (s : State) : (readRefused s).fbHeight = s.fbHeight := rfl
@[simp] theorem readRefused_fbMode (s : State) : (readRefused s).fbMode = s.fbMode := rfl
@[simp] theorem readRefused_fb (s : State) : (readRefused s).fb = s.fb := rfl
@[simp] theorem readRefused_out (s : State) : (readRefused s).out = s.out := rfl
@[simp] theorem readRefused_params (s : State) : (readRefused s).params = s.params := rfl
@[simp] theorem readRefused_inputs (s : State) : (readRefused s).inputs = s.inputs := rfl
@[simp] theorem readRefused_responses (s : State) :
    (readRefused s).responses = s.responses ++ [{ resp := .error, rdata := some 0#32 }] := rfl

/-! ## storeDone -/

@[simp] theorem storeDone_result (s : State) : (storeDone s).result = s.result := rfl
@[simp] theorem storeDone_fatal (s : State) : (storeDone s).fatal = s.fatal := rfl
@[simp] theorem storeDone_arg0 (s : State) : (storeDone s).arg0 = s.arg0 := rfl
@[simp] theorem storeDone_arg1 (s : State) : (storeDone s).arg1 = s.arg1 := rfl
@[simp] theorem storeDone_rdata (s : State) : (storeDone s).rdata = s.rdata := rfl
@[simp] theorem storeDone_outLen (s : State) : (storeDone s).outLen = s.outLen := rfl
@[simp] theorem storeDone_cfgWidth (s : State) : (storeDone s).cfgWidth = s.cfgWidth := rfl
@[simp] theorem storeDone_cfgHeight (s : State) : (storeDone s).cfgHeight = s.cfgHeight := rfl
@[simp] theorem storeDone_cfgModes (s : State) : (storeDone s).cfgModes = s.cfgModes := rfl
@[simp] theorem storeDone_cfgScan (s : State) : (storeDone s).cfgScan = s.cfgScan := rfl
@[simp] theorem storeDone_cfgBitord (s : State) : (storeDone s).cfgBitord = s.cfgBitord := rfl
@[simp] theorem storeDone_cfgRowOffset (s : State) : (storeDone s).cfgRowOffset = s.cfgRowOffset := rfl
@[simp] theorem storeDone_cfgColOffset (s : State) : (storeDone s).cfgColOffset = s.cfgColOffset := rfl
@[simp] theorem storeDone_fbWidth (s : State) : (storeDone s).fbWidth = s.fbWidth := rfl
@[simp] theorem storeDone_fbHeight (s : State) : (storeDone s).fbHeight = s.fbHeight := rfl
@[simp] theorem storeDone_fbMode (s : State) : (storeDone s).fbMode = s.fbMode := rfl
@[simp] theorem storeDone_fb (s : State) : (storeDone s).fb = s.fb := rfl
@[simp] theorem storeDone_out (s : State) : (storeDone s).out = s.out := rfl
@[simp] theorem storeDone_params (s : State) : (storeDone s).params = s.params := rfl
@[simp] theorem storeDone_inputs (s : State) : (storeDone s).inputs = s.inputs := rfl
@[simp] theorem storeDone_responses (s : State) : (storeDone s).responses = s.responses ++ [writeOkay] := rfl

/-! ## complete -/

@[simp] theorem complete_result (s : State) : (complete s).result = resultOk := rfl
@[simp] theorem complete_fatal (s : State) : (complete s).fatal = s.fatal := rfl
@[simp] theorem complete_arg0 (s : State) : (complete s).arg0 = s.arg0 := rfl
@[simp] theorem complete_arg1 (s : State) : (complete s).arg1 = s.arg1 := rfl
@[simp] theorem complete_rdata (s : State) : (complete s).rdata = s.rdata := rfl
@[simp] theorem complete_outLen (s : State) : (complete s).outLen = s.outLen := rfl
@[simp] theorem complete_cfgWidth (s : State) : (complete s).cfgWidth = s.cfgWidth := rfl
@[simp] theorem complete_cfgHeight (s : State) : (complete s).cfgHeight = s.cfgHeight := rfl
@[simp] theorem complete_cfgModes (s : State) : (complete s).cfgModes = s.cfgModes := rfl
@[simp] theorem complete_cfgScan (s : State) : (complete s).cfgScan = s.cfgScan := rfl
@[simp] theorem complete_cfgBitord (s : State) : (complete s).cfgBitord = s.cfgBitord := rfl
@[simp] theorem complete_cfgRowOffset (s : State) : (complete s).cfgRowOffset = s.cfgRowOffset := rfl
@[simp] theorem complete_cfgColOffset (s : State) : (complete s).cfgColOffset = s.cfgColOffset := rfl
@[simp] theorem complete_fbWidth (s : State) : (complete s).fbWidth = s.fbWidth := rfl
@[simp] theorem complete_fbHeight (s : State) : (complete s).fbHeight = s.fbHeight := rfl
@[simp] theorem complete_fbMode (s : State) : (complete s).fbMode = s.fbMode := rfl
@[simp] theorem complete_fb (s : State) : (complete s).fb = s.fb := rfl
@[simp] theorem complete_out (s : State) : (complete s).out = s.out := rfl
@[simp] theorem complete_params (s : State) : (complete s).params = s.params := rfl
@[simp] theorem complete_inputs (s : State) : (complete s).inputs = s.inputs := rfl
@[simp] theorem complete_responses (s : State) : (complete s).responses = s.responses ++ [writeOkay] := rfl

/-! ## raise -/

@[simp] theorem raise_result (e : ErrorCode) (s : State) : (raise e s).result = e.code := rfl
@[simp] theorem raise_fatal (e : ErrorCode) (s : State) : (raise e s).fatal = s.fatal := rfl
@[simp] theorem raise_arg0 (e : ErrorCode) (s : State) : (raise e s).arg0 = s.arg0 := rfl
@[simp] theorem raise_arg1 (e : ErrorCode) (s : State) : (raise e s).arg1 = s.arg1 := rfl
@[simp] theorem raise_rdata (e : ErrorCode) (s : State) : (raise e s).rdata = s.rdata := rfl
@[simp] theorem raise_outLen (e : ErrorCode) (s : State) : (raise e s).outLen = s.outLen := rfl
@[simp] theorem raise_cfgWidth (e : ErrorCode) (s : State) : (raise e s).cfgWidth = s.cfgWidth := rfl
@[simp] theorem raise_cfgHeight (e : ErrorCode) (s : State) : (raise e s).cfgHeight = s.cfgHeight := rfl
@[simp] theorem raise_cfgModes (e : ErrorCode) (s : State) : (raise e s).cfgModes = s.cfgModes := rfl
@[simp] theorem raise_cfgScan (e : ErrorCode) (s : State) : (raise e s).cfgScan = s.cfgScan := rfl
@[simp] theorem raise_cfgBitord (e : ErrorCode) (s : State) : (raise e s).cfgBitord = s.cfgBitord := rfl
@[simp] theorem raise_cfgRowOffset (e : ErrorCode) (s : State) : (raise e s).cfgRowOffset = s.cfgRowOffset := rfl
@[simp] theorem raise_cfgColOffset (e : ErrorCode) (s : State) : (raise e s).cfgColOffset = s.cfgColOffset := rfl
@[simp] theorem raise_fbWidth (e : ErrorCode) (s : State) : (raise e s).fbWidth = s.fbWidth := rfl
@[simp] theorem raise_fbHeight (e : ErrorCode) (s : State) : (raise e s).fbHeight = s.fbHeight := rfl
@[simp] theorem raise_fbMode (e : ErrorCode) (s : State) : (raise e s).fbMode = s.fbMode := rfl
@[simp] theorem raise_fb (e : ErrorCode) (s : State) : (raise e s).fb = s.fb := rfl
@[simp] theorem raise_out (e : ErrorCode) (s : State) : (raise e s).out = s.out := rfl
@[simp] theorem raise_params (e : ErrorCode) (s : State) : (raise e s).params = s.params := rfl
@[simp] theorem raise_inputs (e : ErrorCode) (s : State) : (raise e s).inputs = s.inputs := rfl
@[simp] theorem raise_responses (e : ErrorCode) (s : State) :
    (raise e s).responses = s.responses ++ [writeError] := rfl

/-! ## refuseHalted -/

@[simp] theorem refuseHalted_result (s : State) : (refuseHalted s).result = s.result := rfl
@[simp] theorem refuseHalted_fatal (s : State) : (refuseHalted s).fatal = s.fatal := rfl
@[simp] theorem refuseHalted_arg0 (s : State) : (refuseHalted s).arg0 = s.arg0 := rfl
@[simp] theorem refuseHalted_arg1 (s : State) : (refuseHalted s).arg1 = s.arg1 := rfl
@[simp] theorem refuseHalted_rdata (s : State) : (refuseHalted s).rdata = s.rdata := rfl
@[simp] theorem refuseHalted_outLen (s : State) : (refuseHalted s).outLen = s.outLen := rfl
@[simp] theorem refuseHalted_cfgWidth (s : State) : (refuseHalted s).cfgWidth = s.cfgWidth := rfl
@[simp] theorem refuseHalted_cfgHeight (s : State) : (refuseHalted s).cfgHeight = s.cfgHeight := rfl
@[simp] theorem refuseHalted_cfgModes (s : State) : (refuseHalted s).cfgModes = s.cfgModes := rfl
@[simp] theorem refuseHalted_cfgScan (s : State) : (refuseHalted s).cfgScan = s.cfgScan := rfl
@[simp] theorem refuseHalted_cfgBitord (s : State) : (refuseHalted s).cfgBitord = s.cfgBitord := rfl
@[simp] theorem refuseHalted_cfgRowOffset (s : State) : (refuseHalted s).cfgRowOffset = s.cfgRowOffset := rfl
@[simp] theorem refuseHalted_cfgColOffset (s : State) : (refuseHalted s).cfgColOffset = s.cfgColOffset := rfl
@[simp] theorem refuseHalted_fbWidth (s : State) : (refuseHalted s).fbWidth = s.fbWidth := rfl
@[simp] theorem refuseHalted_fbHeight (s : State) : (refuseHalted s).fbHeight = s.fbHeight := rfl
@[simp] theorem refuseHalted_fbMode (s : State) : (refuseHalted s).fbMode = s.fbMode := rfl
@[simp] theorem refuseHalted_fb (s : State) : (refuseHalted s).fb = s.fb := rfl
@[simp] theorem refuseHalted_out (s : State) : (refuseHalted s).out = s.out := rfl
@[simp] theorem refuseHalted_params (s : State) : (refuseHalted s).params = s.params := rfl
@[simp] theorem refuseHalted_inputs (s : State) : (refuseHalted s).inputs = s.inputs := rfl
@[simp] theorem refuseHalted_responses (s : State) : (refuseHalted s).responses = s.responses ++ [writeError] := rfl

/-! ## failGenerate -/

@[simp] theorem failGenerate_result (e : ErrorCode) (s : State) : (failGenerate e s).result = e.code := rfl
@[simp] theorem failGenerate_fatal (e : ErrorCode) (s : State) : (failGenerate e s).fatal = s.fatal := rfl
@[simp] theorem failGenerate_arg0 (e : ErrorCode) (s : State) : (failGenerate e s).arg0 = s.arg0 := rfl
@[simp] theorem failGenerate_arg1 (e : ErrorCode) (s : State) : (failGenerate e s).arg1 = s.arg1 := rfl
@[simp] theorem failGenerate_rdata (e : ErrorCode) (s : State) : (failGenerate e s).rdata = s.rdata := rfl
@[simp] theorem failGenerate_outLen (e : ErrorCode) (s : State) : (failGenerate e s).outLen = 0#32 := rfl
@[simp] theorem failGenerate_cfgWidth (e : ErrorCode) (s : State) : (failGenerate e s).cfgWidth = s.cfgWidth := rfl
@[simp] theorem failGenerate_cfgHeight (e : ErrorCode) (s : State) : (failGenerate e s).cfgHeight = s.cfgHeight := rfl
@[simp] theorem failGenerate_cfgModes (e : ErrorCode) (s : State) : (failGenerate e s).cfgModes = s.cfgModes := rfl
@[simp] theorem failGenerate_cfgScan (e : ErrorCode) (s : State) : (failGenerate e s).cfgScan = s.cfgScan := rfl
@[simp] theorem failGenerate_cfgBitord (e : ErrorCode) (s : State) : (failGenerate e s).cfgBitord = s.cfgBitord := rfl
@[simp] theorem failGenerate_cfgRowOffset (e : ErrorCode) (s : State) :
    (failGenerate e s).cfgRowOffset = s.cfgRowOffset := rfl
@[simp] theorem failGenerate_cfgColOffset (e : ErrorCode) (s : State) :
    (failGenerate e s).cfgColOffset = s.cfgColOffset := rfl
@[simp] theorem failGenerate_fbWidth (e : ErrorCode) (s : State) : (failGenerate e s).fbWidth = s.fbWidth := rfl
@[simp] theorem failGenerate_fbHeight (e : ErrorCode) (s : State) : (failGenerate e s).fbHeight = s.fbHeight := rfl
@[simp] theorem failGenerate_fbMode (e : ErrorCode) (s : State) : (failGenerate e s).fbMode = s.fbMode := rfl
@[simp] theorem failGenerate_fb (e : ErrorCode) (s : State) : (failGenerate e s).fb = s.fb := rfl
@[simp] theorem failGenerate_out (e : ErrorCode) (s : State) : (failGenerate e s).out = s.out := rfl
@[simp] theorem failGenerate_params (e : ErrorCode) (s : State) : (failGenerate e s).params = s.params := rfl
@[simp] theorem failGenerate_inputs (e : ErrorCode) (s : State) : (failGenerate e s).inputs = s.inputs := rfl
@[simp] theorem failGenerate_responses (e : ErrorCode) (s : State) :
    (failGenerate e s).responses = s.responses ++ [writeError] := rfl

/-! ## fatalHalt -/

@[simp] theorem fatalHalt_result (s : State) : (fatalHalt s).result = ErrorCode.unmappedStrategy.code := rfl
@[simp] theorem fatalHalt_fatal (s : State) : (fatalHalt s).fatal = true := rfl
@[simp] theorem fatalHalt_arg0 (s : State) : (fatalHalt s).arg0 = s.arg0 := rfl
@[simp] theorem fatalHalt_arg1 (s : State) : (fatalHalt s).arg1 = s.arg1 := rfl
@[simp] theorem fatalHalt_rdata (s : State) : (fatalHalt s).rdata = s.rdata := rfl
@[simp] theorem fatalHalt_outLen (s : State) : (fatalHalt s).outLen = 0#32 := rfl
@[simp] theorem fatalHalt_cfgWidth (s : State) : (fatalHalt s).cfgWidth = s.cfgWidth := rfl
@[simp] theorem fatalHalt_cfgHeight (s : State) : (fatalHalt s).cfgHeight = s.cfgHeight := rfl
@[simp] theorem fatalHalt_cfgModes (s : State) : (fatalHalt s).cfgModes = s.cfgModes := rfl
@[simp] theorem fatalHalt_cfgScan (s : State) : (fatalHalt s).cfgScan = s.cfgScan := rfl
@[simp] theorem fatalHalt_cfgBitord (s : State) : (fatalHalt s).cfgBitord = s.cfgBitord := rfl
@[simp] theorem fatalHalt_cfgRowOffset (s : State) : (fatalHalt s).cfgRowOffset = s.cfgRowOffset := rfl
@[simp] theorem fatalHalt_cfgColOffset (s : State) : (fatalHalt s).cfgColOffset = s.cfgColOffset := rfl
@[simp] theorem fatalHalt_fbWidth (s : State) : (fatalHalt s).fbWidth = s.fbWidth := rfl
@[simp] theorem fatalHalt_fbHeight (s : State) : (fatalHalt s).fbHeight = s.fbHeight := rfl
@[simp] theorem fatalHalt_fbMode (s : State) : (fatalHalt s).fbMode = s.fbMode := rfl
@[simp] theorem fatalHalt_fb (s : State) : (fatalHalt s).fb = s.fb := rfl
@[simp] theorem fatalHalt_out (s : State) : (fatalHalt s).out = s.out := rfl
@[simp] theorem fatalHalt_params (s : State) : (fatalHalt s).params = s.params := rfl
@[simp] theorem fatalHalt_inputs (s : State) : (fatalHalt s).inputs = s.inputs := rfl
@[simp] theorem fatalHalt_responses (s : State) : (fatalHalt s).responses = s.responses ++ [writeError] := rfl

/-! ## commitFrame -/

@[simp] theorem commitFrame_result (frame : List Byte) (s : State) : (commitFrame frame s).result = resultOk := rfl
@[simp] theorem commitFrame_fatal (frame : List Byte) (s : State) : (commitFrame frame s).fatal = s.fatal := rfl
@[simp] theorem commitFrame_arg0 (frame : List Byte) (s : State) : (commitFrame frame s).arg0 = s.arg0 := rfl
@[simp] theorem commitFrame_arg1 (frame : List Byte) (s : State) : (commitFrame frame s).arg1 = s.arg1 := rfl
@[simp] theorem commitFrame_rdata (frame : List Byte) (s : State) : (commitFrame frame s).rdata = s.rdata := rfl
@[simp] theorem commitFrame_outLen (frame : List Byte) (s : State) :
    (commitFrame frame s).outLen = BitVec.ofNat 32 frame.length := rfl
@[simp] theorem commitFrame_cfgWidth (frame : List Byte) (s : State) :
    (commitFrame frame s).cfgWidth = s.cfgWidth := rfl
@[simp] theorem commitFrame_cfgHeight (frame : List Byte) (s : State) :
    (commitFrame frame s).cfgHeight = s.cfgHeight := rfl
@[simp] theorem commitFrame_cfgModes (frame : List Byte) (s : State) :
    (commitFrame frame s).cfgModes = s.cfgModes := rfl
@[simp] theorem commitFrame_cfgScan (frame : List Byte) (s : State) : (commitFrame frame s).cfgScan = s.cfgScan := rfl
@[simp] theorem commitFrame_cfgBitord (frame : List Byte) (s : State) :
    (commitFrame frame s).cfgBitord = s.cfgBitord := rfl
@[simp] theorem commitFrame_cfgRowOffset (frame : List Byte) (s : State) :
    (commitFrame frame s).cfgRowOffset = s.cfgRowOffset := rfl
@[simp] theorem commitFrame_cfgColOffset (frame : List Byte) (s : State) :
    (commitFrame frame s).cfgColOffset = s.cfgColOffset := rfl
@[simp] theorem commitFrame_fbWidth (frame : List Byte) (s : State) : (commitFrame frame s).fbWidth = s.fbWidth := rfl
@[simp] theorem commitFrame_fbHeight (frame : List Byte) (s : State) :
    (commitFrame frame s).fbHeight = s.fbHeight := rfl
@[simp] theorem commitFrame_fbMode (frame : List Byte) (s : State) : (commitFrame frame s).fbMode = s.fbMode := rfl
@[simp] theorem commitFrame_fb (frame : List Byte) (s : State) : (commitFrame frame s).fb = s.fb := rfl
@[simp] theorem commitFrame_out (frame : List Byte) (s : State) : (commitFrame frame s).out = s.out ++ [frame] := rfl
@[simp] theorem commitFrame_params (frame : List Byte) (s : State) : (commitFrame frame s).params = s.params := rfl
@[simp] theorem commitFrame_inputs (frame : List Byte) (s : State) : (commitFrame frame s).inputs = s.inputs := rfl
@[simp] theorem commitFrame_responses (frame : List Byte) (s : State) :
    (commitFrame frame s).responses = s.responses ++ [writeOkay] := rfl

/-! ## presentFirst -/

@[simp] theorem presentFirst_result (a : Access) (s : State) : (presentFirst a s).result = s.result := rfl
@[simp] theorem presentFirst_fatal (a : Access) (s : State) : (presentFirst a s).fatal = s.fatal := rfl
@[simp] theorem presentFirst_arg0 (a : Access) (s : State) : (presentFirst a s).arg0 = s.arg0 := rfl
@[simp] theorem presentFirst_arg1 (a : Access) (s : State) : (presentFirst a s).arg1 = s.arg1 := rfl
@[simp] theorem presentFirst_rdata (a : Access) (s : State) : (presentFirst a s).rdata = s.rdata := rfl
@[simp] theorem presentFirst_outLen (a : Access) (s : State) : (presentFirst a s).outLen = s.outLen := rfl
@[simp] theorem presentFirst_cfgWidth (a : Access) (s : State) : (presentFirst a s).cfgWidth = s.cfgWidth := rfl
@[simp] theorem presentFirst_cfgHeight (a : Access) (s : State) : (presentFirst a s).cfgHeight = s.cfgHeight := rfl
@[simp] theorem presentFirst_cfgModes (a : Access) (s : State) : (presentFirst a s).cfgModes = s.cfgModes := rfl
@[simp] theorem presentFirst_cfgScan (a : Access) (s : State) : (presentFirst a s).cfgScan = s.cfgScan := rfl
@[simp] theorem presentFirst_cfgBitord (a : Access) (s : State) : (presentFirst a s).cfgBitord = s.cfgBitord := rfl
@[simp] theorem presentFirst_cfgRowOffset (a : Access) (s : State) :
    (presentFirst a s).cfgRowOffset = s.cfgRowOffset := rfl
@[simp] theorem presentFirst_cfgColOffset (a : Access) (s : State) :
    (presentFirst a s).cfgColOffset = s.cfgColOffset := rfl
@[simp] theorem presentFirst_fbWidth (a : Access) (s : State) : (presentFirst a s).fbWidth = s.fbWidth := rfl
@[simp] theorem presentFirst_fbHeight (a : Access) (s : State) : (presentFirst a s).fbHeight = s.fbHeight := rfl
@[simp] theorem presentFirst_fbMode (a : Access) (s : State) : (presentFirst a s).fbMode = s.fbMode := rfl
@[simp] theorem presentFirst_fb (a : Access) (s : State) : (presentFirst a s).fb = s.fb := rfl
@[simp] theorem presentFirst_out (a : Access) (s : State) : (presentFirst a s).out = s.out := rfl
@[simp] theorem presentFirst_params (a : Access) (s : State) : (presentFirst a s).params = s.params := rfl
@[simp] theorem presentFirst_inputs (a : Access) (s : State) :
    (presentFirst a s).inputs = .access a :: s.inputs := rfl
@[simp] theorem presentFirst_responses (a : Access) (s : State) : (presentFirst a s).responses = s.responses := rfl

/-! ## applyReset: the parameters and the pending inputs stay, every other field takes its reset value -/

@[simp] theorem applyReset_result (s : State) : (applyReset s).result = (State.resetWith s.params).result := rfl
@[simp] theorem applyReset_fatal (s : State) : (applyReset s).fatal = (State.resetWith s.params).fatal := rfl
@[simp] theorem applyReset_arg0 (s : State) : (applyReset s).arg0 = (State.resetWith s.params).arg0 := rfl
@[simp] theorem applyReset_arg1 (s : State) : (applyReset s).arg1 = (State.resetWith s.params).arg1 := rfl
@[simp] theorem applyReset_rdata (s : State) : (applyReset s).rdata = (State.resetWith s.params).rdata := rfl
@[simp] theorem applyReset_outLen (s : State) : (applyReset s).outLen = (State.resetWith s.params).outLen := rfl
@[simp] theorem applyReset_cfgWidth (s : State) : (applyReset s).cfgWidth = (State.resetWith s.params).cfgWidth := rfl
@[simp] theorem applyReset_cfgHeight (s : State) : (applyReset s).cfgHeight = (State.resetWith s.params).cfgHeight := rfl
@[simp] theorem applyReset_cfgModes (s : State) : (applyReset s).cfgModes = (State.resetWith s.params).cfgModes := rfl
@[simp] theorem applyReset_cfgScan (s : State) : (applyReset s).cfgScan = (State.resetWith s.params).cfgScan := rfl
@[simp] theorem applyReset_cfgBitord (s : State) : (applyReset s).cfgBitord = (State.resetWith s.params).cfgBitord := rfl
@[simp] theorem applyReset_cfgRowOffset (s : State) : (applyReset s).cfgRowOffset = (State.resetWith s.params).cfgRowOffset := rfl
@[simp] theorem applyReset_cfgColOffset (s : State) : (applyReset s).cfgColOffset = (State.resetWith s.params).cfgColOffset := rfl
@[simp] theorem applyReset_fbWidth (s : State) : (applyReset s).fbWidth = (State.resetWith s.params).fbWidth := rfl
@[simp] theorem applyReset_fbHeight (s : State) : (applyReset s).fbHeight = (State.resetWith s.params).fbHeight := rfl
@[simp] theorem applyReset_fbMode (s : State) : (applyReset s).fbMode = (State.resetWith s.params).fbMode := rfl
@[simp] theorem applyReset_fb (s : State) : (applyReset s).fb = (State.resetWith s.params).fb := rfl
@[simp] theorem applyReset_out (s : State) : (applyReset s).out = (State.resetWith s.params).out := rfl
@[simp] theorem applyReset_params (s : State) : (applyReset s).params = s.params := rfl
@[simp] theorem applyReset_inputs (s : State) : (applyReset s).inputs = s.inputs := rfl
@[simp] theorem applyReset_responses (s : State) : (applyReset s).responses = (State.resetWith s.params).responses := rfl

end Sys2Proof.Machine
end

