-- ==== Sys2Proof/Laws/Ops.lean ====
section
/-! SUPPORT. One lemma for each shared operation that says once everything it can do, for the proofs to cite instead of
unfolding it. -/

namespace Sys2Proof.Machine

/-! ## The gate of every write -/

theorem unlessHalted_of_fatal {s : State} (h : s.fatal = true) (run : StepResult) :
    unlessHalted s run = .next (refuseHalted s) := by simp [unlessHalted, h]

theorem unlessHalted_of_running {s : State} (h : s.fatal = false) (run : StepResult) :
    unlessHalted s run = run := by simp [unlessHalted, h]

/-- If a gated write answers next t, then it was refused by a halted core, or it ran and answered next t. -/
theorem unlessHalted_next {s t : State} {run : StepResult} (h : unlessHalted s run = .next t) :
    (s.fatal = true ∧ t = refuseHalted s) ∨ (s.fatal = false ∧ run = .next t) := by
  unfold unlessHalted at h
  split at h
  · rename_i hf
    cases h
    exact .inl ⟨hf, rfl⟩
  · rename_i hf
    exact .inr ⟨by simpa using hf, h⟩

/-- A gated write proceeds if what it gates does. -/
theorem unlessHalted_proceeds {s : State} {run : StepResult} (h : ∃ t, run = .next t) :
    ∃ t, unlessHalted s run = .next t := by
  unfold unlessHalted
  split
  · exact ⟨_, rfl⟩
  · exact h

/-! ## Shared meanings -/

theorem readRegister_next {r : RegName} {s t : State} (h : readRegister r s = .next t) :
    t = readDone (regValue r s) s := by cases h; rfl

theorem refusedRead_next {s t : State} (h : refusedRead s = .next t) : t = readRefused s := by cases h; rfl

theorem refusedWrite_next {s t : State} (h : refusedWrite s = .next t) :
    (s.fatal = true ∧ t = refuseHalted s) ∨ (s.fatal = false ∧ t = raise .accessError s) := by
  rcases unlessHalted_next h with h | ⟨hf, h⟩
  · exact .inl h
  · cases h
    exact .inr ⟨hf, rfl⟩

/-- What the modulator can do past validation: halt on an unmapped code, or commit the frame of its strategies. -/
theorem modulate_next {s t : State} (h : modulate s = .next t) :
    ((ScanOrder.ofCode s.cfgScan = none ∨ Coder.ofCode s.cfgBitord = none) ∧ t = fatalHalt s) ∨
    (∃ d c frame, ScanOrder.ofCode s.cfgScan = some d ∧ Coder.ofCode s.cfgBitord = some c ∧
      emitFrame s.fbMode c (scanPix d s) = .ok frame ∧ t = commitFrame frame s) := by
  unfold modulate at h
  split at h
  · rename_i hd
    cases h
    exact .inl ⟨.inl hd, rfl⟩
  · rename_i d hd
    split at h
    · rename_i hc
      cases h
      exact .inl ⟨.inr hc, rfl⟩
    · rename_i c hc
      split at h
      · cases h
      · rename_i frame hf
        cases h
        exact .inr ⟨d, c, frame, hd, hc, hf, rfl⟩

/-- What GENERATE can do. -/
theorem execGenerate_next {s t : State} (h : execGenerate s = .next t) :
    (s.fatal = true ∧ t = refuseHalted s) ∨
    (∃ e, validateGenerate s = some e ∧ t = failGenerate e s) ∨
    (validateGenerate s = none ∧ modulate s = .next t) := by
  rcases unlessHalted_next h with h | ⟨_, h⟩
  · exact .inl h
  · split at h
    · rename_i e he
      cases h
      exact .inr (.inl ⟨e, he, rfl⟩)
    · rename_i he
      exact .inr (.inr ⟨he, h⟩)

/-! ## The port -/

theorem step_idle {s : State} (h : s.inputs = []) : step s = .next s := by simp [step, performNext, h]

theorem step_cons {s : State} {i : Input} {rest : List Input} (h : s.inputs = i :: rest) :
    step s = performInput i { s with inputs := rest } := by simp [step, performNext, h]

theorem performAccess_ok {a : Access} {i : Instr} (h : decodeAccess a = .ok i) (s : State) :
    performAccess a s = exec i s := by simp [performAccess, h]

/-- What a step can do: nothing without an event, a reset, or the instruction its access decodes to. -/
theorem step_next {s t : State} (h : step s = .next t) :
    (s.inputs = [] ∧ t = s) ∨
    (∃ rest, s.inputs = .reset :: rest ∧ t = applyReset { s with inputs := rest }) ∨
    (∃ a rest i, s.inputs = .access a :: rest ∧ decodeAccess a = .ok i ∧
      exec i { s with inputs := rest } = .next t) := by
  cases hin : s.inputs with
  | nil =>
    rw [step_idle hin] at h
    cases h
    exact .inl ⟨rfl, rfl⟩
  | cons i rest =>
    rw [step_cons hin] at h
    cases i with
    | reset =>
      cases h
      exact .inr (.inl ⟨rest, rfl, rfl⟩)
    | access a =>
      simp only [performInput, performAccess] at h
      split at h
      · rename_i i hi
        exact .inr (.inr ⟨a, rest, i, rfl, hi, h⟩)
      · cases h

end Sys2Proof.Machine
end

