-- ==== Sys2Proof/Laws/Effect.lean ====
section
/-! SUPPORT. Everything an instruction can do, said once: if exec answers next t, then t is one of the states of
`Effect`, with the conditions under which it is. WR CMD is left to its own statement: it is its command. -/

namespace Sys2Proof.Machine

/-- The next states of an instruction that is not WR CMD, one constructor for each way of completing. -/
inductive Effect : Instr → State → State → Prop where
  | answered {i s} (r : Response) (hw : isWrite i = false) : Effect i s (respond r s)
  | halted {i s} (hf : s.fatal = true) (hw : isWrite i = true) : Effect i s (refuseHalted s)
  | refused {i s} (hf : s.fatal = false) (hc : accessClass i = .refusedWrite) : Effect i s (raise .accessError s)
  | failed {i s} (hf : s.fatal = false) (e : ErrorCode) (hc : accessClass i = .operationWrite)
      (he : e.code.toNat ∈ [2, 3, 4, 13]) : Effect i s (raise e s)
  | arg0 {s} (hf : s.fatal = false) (d : Word) : Effect (.wrArg0 d) s (storeDone { s with arg0 := d })
  | arg1 {s} (hf : s.fatal = false) (d : Word) : Effect (.wrArg1 d) s (storeDone { s with arg1 := d })
  | width {s} (hf : s.fatal = false) (d : Word) (hd : ¬ (sint32 d < 1 ∨ sint32 d > s.params.maxWidth)) :
      Effect (.wrCfgWidth d) s (complete { s with cfgWidth := d })
  | height {s} (hf : s.fatal = false) (d : Word) (hd : ¬ (sint32 d < 1 ∨ sint32 d > s.params.maxHeight)) :
      Effect (.wrCfgHeight d) s (complete { s with cfgHeight := d })
  | modes {s} (hf : s.fatal = false) (d : Word) (h5 : ¬ d.extractLsb' 5 27 ≠ 0#27)
      (h0 : ¬ d.extractLsb' 0 5 = 0#5) : Effect (.wrCfgModes d) s (complete { s with cfgModes := d })
  | scan {s} (hf : s.fatal = false) (d : Word) (hd : ¬ d.toNat > 5) :
      Effect (.wrCfgScan d) s (complete { s with cfgScan := d })
  | bitord {s} (hf : s.fatal = false) (d : Word) (hd : ¬ d.toNat > 1) :
      Effect (.wrCfgBitord d) s (complete { s with cfgBitord := d })
  | rowOffset {s} (hf : s.fatal = false) (d : Word) (hd : ¬ sint32 d < 0) :
      Effect (.wrCfgRowOffset d) s (complete { s with cfgRowOffset := d })
  | colOffset {s} (hf : s.fatal = false) (d : Word) (hd : ¬ sint32 d < 0) :
      Effect (.wrCfgColOffset d) s (complete { s with cfgColOffset := d })
  | setup {s} (hf : s.fatal = false) (m : ColorMode) (hm : ColorMode.ofCode s.arg1 = some m)
      (hd : ¬ ((argLow s.arg0).toNat < 1 ∨ (argLow s.arg0).toNat > s.params.maxWidth ∨
        (argHigh s.arg0).toNat < 1 ∨ (argHigh s.arg0).toNat > s.params.maxHeight))
      (hp : ¬ (argLow s.arg0).toNat * (argHigh s.arg0).toNat > s.params.fbMaxPixels) :
      Effect .fbSetup s (complete { s with
        fbWidth := argLow s.arg0, fbHeight := argHigh s.arg0, fbMode := m, fb := fbCleared })
  | write {s} (hf : s.fatal = false) (hb : ¬ (argLow s.arg0 ≥ s.fbWidth ∨ argHigh s.arg0 ≥ s.fbHeight))
      (hv : ¬ (!validPixel s.fbMode s.arg1) = true) :
      Effect .fbWrite s (complete { s with
        fb := fbWrite s.fb s.fbMode (argLow s.arg0).toNat (argHigh s.arg0).toNat s.arg1 })
  | read {s} (hf : s.fatal = false) (hb : ¬ (argLow s.arg0 ≥ s.fbWidth ∨ argHigh s.arg0 ≥ s.fbHeight)) :
      Effect .fbRead s (complete { s with
        rdata := fbRead s.fb s.fbMode (argLow s.arg0).toNat (argHigh s.arg0).toNat })
  | fill {s} (hf : s.fatal = false) (hv : ¬ (!validPixel s.fbMode s.arg1) = true) :
      Effect .fbFill s (complete { s with
        fb := fbFill s.fb s.fbMode s.fbWidth.toNat s.fbHeight.toNat s.arg1 })
  | invalid {s} (hf : s.fatal = false) (e : ErrorCode) (he : validateGenerate s = some e) :
      Effect .generate s (failGenerate e s)
  | unmapped {s} (hf : s.fatal = false) (hv : validateGenerate s = none)
      (hn : ScanOrder.ofCode s.cfgScan = none ∨ Coder.ofCode s.cfgBitord = none) : Effect .generate s (fatalHalt s)
  | frame {s} (hf : s.fatal = false) (hv : validateGenerate s = none) (d : ScanOrder) (c : Coder)
      (bytes : List Byte) (hd : ScanOrder.ofCode s.cfgScan = some d) (hc : Coder.ofCode s.cfgBitord = some c)
      (he : emitFrame s.fbMode c (scanPix d s) = .ok bytes) : Effect .generate s (commitFrame bytes s)

/-- A gated write has an Effect if it has one when it runs. -/
theorem Effect.of_gate {i : Instr} {s t : State} {run : StepResult} (hw : isWrite i = true)
    (h : unlessHalted s run = .next t) (ok : s.fatal = false → run = .next t → Effect i s t) : Effect i s t := by
  rcases unlessHalted_next h with ⟨hf, rfl⟩ | ⟨hf, h⟩
  · exact .halted hf hw
  · exact ok hf h

theorem exec_effect_of_read {i : Instr} {s t : State} (hw : isWrite i = false) (h : exec i s = .next t) :
    Effect i s t := by
  cases i <;> first | (simp [isWrite, accessClass] at hw; done) | (cases h; exact .answered _ rfl)

theorem exec_effect_of_refusedWrite {i : Instr} {s t : State} (hc : accessClass i = .refusedWrite)
    (h : exec i s = .next t) : Effect i s t := by
  have hr : refusedWrite s = .next t := by
    cases i <;> first | (simp [accessClass] at hc; done) | exact h
  rcases refusedWrite_next hr with ⟨hf, rfl⟩ | ⟨hf, rfl⟩
  · exact .halted hf (by simp [isWrite, hc])
  · exact .refused hf hc

theorem exec_effect_of_setter {i : Instr} {s t : State} (hs : (setterOf i).isSome = true)
    (h : exec i s = .next t) : Effect i s t := by
  cases i <;> first | (simp [setterOf] at hs; done) | skip
  all_goals
    refine Effect.of_gate rfl h fun hf h => ?_
    split at h
    · cases h
      exact .failed hf _ rfl (by decide)
  case wrCfgWidth hd => cases h; exact .width hf _ hd
  case wrCfgHeight hd => cases h; exact .height hf _ hd
  case wrCfgModes h5 =>
    split at h
    · cases h
      exact .failed hf _ rfl (by decide)
    · cases h
      exact .modes hf _ h5 ‹_›
  case wrCfgScan hd => cases h; exact .scan hf _ hd
  case wrCfgBitord hd => cases h; exact .bitord hf _ hd
  case wrCfgRowOffset hd => cases h; exact .rowOffset hf _ hd
  case wrCfgColOffset hd => cases h; exact .colOffset hf _ hd

theorem execFbSetup_effect {s t : State} (h : execFbSetup s = .next t) : Effect .fbSetup s t := by
  refine Effect.of_gate rfl h fun hf h => ?_
  split at h
  · cases h
    exact .failed hf _ rfl (by decide)
  · split at h
    · cases h
      exact .failed hf _ rfl (by decide)
    · split at h
      · cases h
        exact .failed hf _ rfl (by decide)
      · cases h
        exact .setup hf _ ‹_› ‹_› ‹_›

theorem execFbWrite_effect {s t : State} (h : execFbWrite s = .next t) : Effect .fbWrite s t := by
  refine Effect.of_gate rfl h fun hf h => ?_
  split at h
  · cases h
    exact .failed hf _ rfl (by decide)
  · split at h
    · cases h
      exact .failed hf _ rfl (by decide)
    · cases h
      exact .write hf ‹_› ‹_›

theorem execFbRead_effect {s t : State} (h : execFbRead s = .next t) : Effect .fbRead s t := by
  refine Effect.of_gate rfl h fun hf h => ?_
  split at h
  · cases h
    exact .failed hf _ rfl (by decide)
  · cases h
    exact .read hf ‹_›

theorem execFbFill_effect {s t : State} (h : execFbFill s = .next t) : Effect .fbFill s t := by
  refine Effect.of_gate rfl h fun hf h => ?_
  split at h
  · cases h
    exact .failed hf _ rfl (by decide)
  · cases h
    exact .fill hf ‹_›

theorem execGenerate_effect {s t : State} (h : execGenerate s = .next t) : Effect .generate s t := by
  refine Effect.of_gate rfl h fun hf h => ?_
  split at h
  · cases h
    exact .invalid hf _ ‹_›
  · rename_i hv
    rcases modulate_next h with ⟨hn, rfl⟩ | ⟨d, c, bytes, hd, hc, he, rfl⟩
    · exact .unmapped hf hv hn
    · exact .frame hf hv d c bytes hd hc he

/-- Everything an instruction other than WR CMD can do. -/
theorem exec_effect {i : Instr} {s t : State} (hi : ∀ data, i ≠ .wrCmd data) (h : exec i s = .next t) :
    Effect i s t := by
  cases hc : accessClass i with
  | read => exact exec_effect_of_read (by simp [isWrite, hc]) h
  | refusedRead => exact exec_effect_of_read (by simp [isWrite, hc]) h
  | refusedWrite => exact exec_effect_of_refusedWrite hc h
  | storageWrite =>
    cases i <;> first | (simp [accessClass] at hc; done) | skip
    case wrArg0 d => exact Effect.of_gate rfl h fun hf h => by cases h; exact .arg0 hf d
    case wrArg1 d => exact Effect.of_gate rfl h fun hf h => by cases h; exact .arg1 hf d
  | operationWrite =>
    by_cases hs : (setterOf i).isSome = true
    · exact exec_effect_of_setter hs h
    · cases i <;> first | (simp [accessClass] at hc; done) | (simp [setterOf] at hs; done) | skip
      case wrCmd data => exact absurd rfl (hi data)
      case fbSetup => exact execFbSetup_effect h
      case fbWrite => exact execFbWrite_effect h
      case fbRead => exact execFbRead_effect h
      case fbFill => exact execFbFill_effect h
      case generate => exact execGenerate_effect h
      case illegalCommand =>
        exact Effect.of_gate rfl h fun hf h => by cases h; exact .failed hf _ rfl (by decide)
      case reservedCommand =>
        exact Effect.of_gate rfl h fun hf h => by cases h; exact .failed hf _ rfl (by decide)

end Sys2Proof.Machine
end

