-- ==== Sys2Proof/Laws/PerInstr.lean ====
section
/-! SUPPORT. The per-instruction family AccessShape: W, bit 8 of the descriptor of the access that presents an
instruction, is set exactly for the writes (30_encoding.md R80; 40_config.md R111). -/

namespace Sys2Proof.Laws.AccessShape

open Sys2Proof.Machine

/-- The W bit of an instruction's access says whether it is a write. -/
def Statement (i : Instr) : Prop := (encode i).access.descriptor.getLsbD 8 = isWrite i

/-- W of a write whatever its offset. -/
theorem write_bit (off : Offset) (data : Word) : (Access.write off data).descriptor.getLsbD 8 = true := by
  revert off; simp only [Access.descriptor]; decide

/-- W of a read whatever its offset. -/
theorem read_bit (off : Offset) : (Access.read off).descriptor.getLsbD 8 = false := by
  revert off; simp only [Access.descriptor]; decide

theorem rdId : Statement .rdId := read_bit _
theorem rdStatus : Statement .rdStatus := read_bit _
theorem rdCmd : Statement .rdCmd := read_bit _
theorem rdArg0 : Statement .rdArg0 := read_bit _
theorem rdArg1 : Statement .rdArg1 := read_bit _
theorem rdRdata : Statement .rdRdata := read_bit _
theorem rdOutLen : Statement .rdOutLen := read_bit _
theorem rdCfgWidth : Statement .rdCfgWidth := read_bit _
theorem rdCfgHeight : Statement .rdCfgHeight := read_bit _
theorem rdCfgModes : Statement .rdCfgModes := read_bit _
theorem rdCfgScan : Statement .rdCfgScan := read_bit _
theorem rdCfgBitord : Statement .rdCfgBitord := read_bit _
theorem rdCfgRowOffset : Statement .rdCfgRowOffset := read_bit _
theorem rdCfgColOffset : Statement .rdCfgColOffset := read_bit _
theorem rdFbWidth : Statement .rdFbWidth := read_bit _
theorem rdFbHeight : Statement .rdFbHeight := read_bit _
theorem rdFbMode : Statement .rdFbMode := read_bit _
theorem wrIdReadOnly (data : Word) : Statement (.wrIdReadOnly data) := write_bit _ _
theorem wrStatusReadOnly (data : Word) : Statement (.wrStatusReadOnly data) := write_bit _ _
theorem wrCmd (data : Word) : Statement (.wrCmd data) := write_bit _ _
theorem wrArg0 (data : Word) : Statement (.wrArg0 data) := write_bit _ _
theorem wrArg1 (data : Word) : Statement (.wrArg1 data) := write_bit _ _
theorem wrRdataReadOnly (data : Word) : Statement (.wrRdataReadOnly data) := write_bit _ _
theorem wrOutLenReadOnly (data : Word) : Statement (.wrOutLenReadOnly data) := write_bit _ _
theorem wrCfgWidth (data : Word) : Statement (.wrCfgWidth data) := write_bit _ _
theorem wrCfgHeight (data : Word) : Statement (.wrCfgHeight data) := write_bit _ _
theorem wrCfgModes (data : Word) : Statement (.wrCfgModes data) := write_bit _ _
theorem wrCfgScan (data : Word) : Statement (.wrCfgScan data) := write_bit _ _
theorem wrCfgBitord (data : Word) : Statement (.wrCfgBitord data) := write_bit _ _
theorem wrCfgRowOffset (data : Word) : Statement (.wrCfgRowOffset data) := write_bit _ _
theorem wrCfgColOffset (data : Word) : Statement (.wrCfgColOffset data) := write_bit _ _
theorem wrFbWidthReadOnly (data : Word) : Statement (.wrFbWidthReadOnly data) := write_bit _ _
theorem wrFbHeightReadOnly (data : Word) : Statement (.wrFbHeightReadOnly data) := write_bit _ _
theorem wrFbModeReadOnly (data : Word) : Statement (.wrFbModeReadOnly data) := write_bit _ _
theorem rdReserved1C : Statement .rdReserved1C := read_bit _
theorem wrReserved1C (data : Word) : Statement (.wrReserved1C data) := write_bit _ _
theorem rdReserved3C : Statement .rdReserved3C := read_bit _
theorem wrReserved3C (data : Word) : Statement (.wrReserved3C data) := write_bit _ _
theorem rdReserved4C : Statement .rdReserved4C := read_bit _
theorem wrReserved4C (data : Word) : Statement (.wrReserved4C data) := write_bit _ _
theorem rdReserved50 : Statement .rdReserved50 := read_bit _
theorem wrReserved50 (data : Word) : Statement (.wrReserved50 data) := write_bit _ _
theorem rdReserved54 : Statement .rdReserved54 := read_bit _
theorem wrReserved54 (data : Word) : Statement (.wrReserved54 data) := write_bit _ _
theorem rdReserved58 : Statement .rdReserved58 := read_bit _
theorem wrReserved58 (data : Word) : Statement (.wrReserved58 data) := write_bit _ _
theorem rdReserved5C : Statement .rdReserved5C := read_bit _
theorem wrReserved5C (data : Word) : Statement (.wrReserved5C data) := write_bit _ _
theorem rdReserved60 : Statement .rdReserved60 := read_bit _
theorem wrReserved60 (data : Word) : Statement (.wrReserved60 data) := write_bit _ _
theorem rdReserved64 : Statement .rdReserved64 := read_bit _
theorem wrReserved64 (data : Word) : Statement (.wrReserved64 data) := write_bit _ _
theorem rdReserved68 : Statement .rdReserved68 := read_bit _
theorem wrReserved68 (data : Word) : Statement (.wrReserved68 data) := write_bit _ _
theorem rdReserved6C : Statement .rdReserved6C := read_bit _
theorem wrReserved6C (data : Word) : Statement (.wrReserved6C data) := write_bit _ _
theorem rdReserved70 : Statement .rdReserved70 := read_bit _
theorem wrReserved70 (data : Word) : Statement (.wrReserved70 data) := write_bit _ _
theorem rdReserved74 : Statement .rdReserved74 := read_bit _
theorem wrReserved74 (data : Word) : Statement (.wrReserved74 data) := write_bit _ _
theorem rdReserved78 : Statement .rdReserved78 := read_bit _
theorem wrReserved78 (data : Word) : Statement (.wrReserved78 data) := write_bit _ _
theorem rdReserved7C : Statement .rdReserved7C := read_bit _
theorem wrReserved7C (data : Word) : Statement (.wrReserved7C data) := write_bit _ _
theorem rdReserved80 : Statement .rdReserved80 := read_bit _
theorem wrReserved80 (data : Word) : Statement (.wrReserved80 data) := write_bit _ _
theorem rdReserved84 : Statement .rdReserved84 := read_bit _
theorem wrReserved84 (data : Word) : Statement (.wrReserved84 data) := write_bit _ _
theorem rdReserved88 : Statement .rdReserved88 := read_bit _
theorem wrReserved88 (data : Word) : Statement (.wrReserved88 data) := write_bit _ _
theorem rdReserved8C : Statement .rdReserved8C := read_bit _
theorem wrReserved8C (data : Word) : Statement (.wrReserved8C data) := write_bit _ _
theorem rdReserved90 : Statement .rdReserved90 := read_bit _
theorem wrReserved90 (data : Word) : Statement (.wrReserved90 data) := write_bit _ _
theorem rdReserved94 : Statement .rdReserved94 := read_bit _
theorem wrReserved94 (data : Word) : Statement (.wrReserved94 data) := write_bit _ _
theorem rdReserved98 : Statement .rdReserved98 := read_bit _
theorem wrReserved98 (data : Word) : Statement (.wrReserved98 data) := write_bit _ _
theorem rdReserved9C : Statement .rdReserved9C := read_bit _
theorem wrReserved9C (data : Word) : Statement (.wrReserved9C data) := write_bit _ _
theorem rdReservedA0 : Statement .rdReservedA0 := read_bit _
theorem wrReservedA0 (data : Word) : Statement (.wrReservedA0 data) := write_bit _ _
theorem rdReservedA4 : Statement .rdReservedA4 := read_bit _
theorem wrReservedA4 (data : Word) : Statement (.wrReservedA4 data) := write_bit _ _
theorem rdReservedA8 : Statement .rdReservedA8 := read_bit _
theorem wrReservedA8 (data : Word) : Statement (.wrReservedA8 data) := write_bit _ _
theorem rdReservedAC : Statement .rdReservedAC := read_bit _
theorem wrReservedAC (data : Word) : Statement (.wrReservedAC data) := write_bit _ _
theorem rdReservedB0 : Statement .rdReservedB0 := read_bit _
theorem wrReservedB0 (data : Word) : Statement (.wrReservedB0 data) := write_bit _ _
theorem rdReservedB4 : Statement .rdReservedB4 := read_bit _
theorem wrReservedB4 (data : Word) : Statement (.wrReservedB4 data) := write_bit _ _
theorem rdReservedB8 : Statement .rdReservedB8 := read_bit _
theorem wrReservedB8 (data : Word) : Statement (.wrReservedB8 data) := write_bit _ _
theorem rdReservedBC : Statement .rdReservedBC := read_bit _
theorem wrReservedBC (data : Word) : Statement (.wrReservedBC data) := write_bit _ _
theorem rdReservedC0 : Statement .rdReservedC0 := read_bit _
theorem wrReservedC0 (data : Word) : Statement (.wrReservedC0 data) := write_bit _ _
theorem rdReservedC4 : Statement .rdReservedC4 := read_bit _
theorem wrReservedC4 (data : Word) : Statement (.wrReservedC4 data) := write_bit _ _
theorem rdReservedC8 : Statement .rdReservedC8 := read_bit _
theorem wrReservedC8 (data : Word) : Statement (.wrReservedC8 data) := write_bit _ _
theorem rdReservedCC : Statement .rdReservedCC := read_bit _
theorem wrReservedCC (data : Word) : Statement (.wrReservedCC data) := write_bit _ _
theorem rdReservedD0 : Statement .rdReservedD0 := read_bit _
theorem wrReservedD0 (data : Word) : Statement (.wrReservedD0 data) := write_bit _ _
theorem rdReservedD4 : Statement .rdReservedD4 := read_bit _
theorem wrReservedD4 (data : Word) : Statement (.wrReservedD4 data) := write_bit _ _
theorem rdReservedD8 : Statement .rdReservedD8 := read_bit _
theorem wrReservedD8 (data : Word) : Statement (.wrReservedD8 data) := write_bit _ _
theorem rdReservedDC : Statement .rdReservedDC := read_bit _
theorem wrReservedDC (data : Word) : Statement (.wrReservedDC data) := write_bit _ _
theorem rdReservedE0 : Statement .rdReservedE0 := read_bit _
theorem wrReservedE0 (data : Word) : Statement (.wrReservedE0 data) := write_bit _ _
theorem rdReservedE4 : Statement .rdReservedE4 := read_bit _
theorem wrReservedE4 (data : Word) : Statement (.wrReservedE4 data) := write_bit _ _
theorem rdReservedE8 : Statement .rdReservedE8 := read_bit _
theorem wrReservedE8 (data : Word) : Statement (.wrReservedE8 data) := write_bit _ _
theorem rdReservedEC : Statement .rdReservedEC := read_bit _
theorem wrReservedEC (data : Word) : Statement (.wrReservedEC data) := write_bit _ _
theorem rdReservedF0 : Statement .rdReservedF0 := read_bit _
theorem wrReservedF0 (data : Word) : Statement (.wrReservedF0 data) := write_bit _ _
theorem rdReservedF4 : Statement .rdReservedF4 := read_bit _
theorem wrReservedF4 (data : Word) : Statement (.wrReservedF4 data) := write_bit _ _
theorem rdReservedF8 : Statement .rdReservedF8 := read_bit _
theorem wrReservedF8 (data : Word) : Statement (.wrReservedF8 data) := write_bit _ _
theorem rdReservedFC : Statement .rdReservedFC := read_bit _
theorem wrReservedFC (data : Word) : Statement (.wrReservedFC data) := write_bit _ _
theorem rdMisaligned1 (o : BitVec 6) : Statement (.rdMisaligned1 o) := read_bit _
theorem rdMisaligned2 (o : BitVec 6) : Statement (.rdMisaligned2 o) := read_bit _
theorem rdMisaligned3 (o : BitVec 6) : Statement (.rdMisaligned3 o) := read_bit _
theorem wrMisaligned1 (o : BitVec 6) (data : Word) : Statement (.wrMisaligned1 o data) := write_bit _ _
theorem wrMisaligned2 (o : BitVec 6) (data : Word) : Statement (.wrMisaligned2 o data) := write_bit _ _
theorem wrMisaligned3 (o : BitVec 6) (data : Word) : Statement (.wrMisaligned3 o data) := write_bit _ _
theorem fbSetup : Statement .fbSetup := write_bit _ _
theorem fbWrite : Statement .fbWrite := write_bit _ _
theorem fbRead : Statement .fbRead := write_bit _ _
theorem fbFill : Statement .fbFill := write_bit _ _
theorem generate : Statement .generate := write_bit _ _
theorem illegalCommand (hi : BitVec 24) (opc : BitVec 8) : Statement (.illegalCommand hi opc) := write_bit _ _
theorem reservedCommand (opc : BitVec 8) : Statement (.reservedCommand opc) := write_bit _ _

end Sys2Proof.Laws.AccessShape
end

