-- ==== Sys2Proof/Tests/Slice0.lean ====
section
/-! SUPPORT. The model's own tests, each result from spec/95_test_vectors.md or worked by hand from the rule cited, and
the witnesses that the hypotheses of the statements can be met. -/

namespace Sys2Proof.Tests

open Sys2Proof.Machine

/-! ## Helpers -/

/-- The reset state of an implementation with the parameters 95_test_vectors.md assumes. -/
def base : State := State.resetWith { maxWidth := 65535, maxHeight := 65535, fbMaxPixels := 8192 }

/-- A state whose framebuffer and configuration agree on w by h pixels of mode m, all modes supported, holding the
listed pixels (x, y, p). -/
def panel (m : ColorMode) (w h : Nat) (scan bitord : Word) (px : List (Nat × Nat × Word)) : State :=
  { base with
    cfgWidth := BitVec.ofNat 32 w, cfgHeight := BitVec.ofNat 32 h, cfgModes := 31#32, cfgScan := scan,
    cfgBitord := bitord, fbWidth := BitVec.ofNat 16 w, fbHeight := BitVec.ofNat 16 h, fbMode := m,
    fb := px.foldl (fun mem p => fbWrite mem m p.1 p.2.1 p.2.2) [] }

/-- A halted core (95_test_vectors.md L2-R15). -/
def halted : State := { base with fatal := true, result := 11#8 }

/-- What an instruction leaves, seen through f; none where it stops. -/
def after {α : Type} (f : State → α) (i : Instr) (s : State) : Option α :=
  match exec i s with
  | .next t => some (f t)
  | _ => none

/-- STATUS.RESULT and the response of an access. -/
def outcome (i : Instr) (s : State) : Option (Nat × Option Response) :=
  after (fun t => (t.result.toNat, lastResponse t)) i s

/-- The last frame and OUT_LEN after GENERATE. -/
def frame (s : State) : Option (Option (List Byte) × Nat) :=
  after (fun t => (t.out.getLast?, t.outLen.toNat)) .generate s

/-- RESULT n with response ERROR. -/
def error (n : Nat) : Option (Nat × Option Response) := some (n, some writeError)

/-- RESULT 0 with response OKAY. -/
def okay : Option (Nat × Option Response) := some (0, some writeOkay)

/-! ## Well-formedness: each check refuses an ill-formed term -/

theorem test_wellFormed_refuses_illegalCommand_zero : (Instr.illegalCommand 0#24 0x10#8).wellFormed = false := by decide

theorem test_wellFormed_refuses_reservedCommand_listed :
    listedOpcodes.all (fun opc => !(Instr.reservedCommand opc).wellFormed) = true := by decide

/-! ## Decoding: every constructor by a word written from the spec's encoding -/

/-- Every register read at its offset of 30_encoding.md R82. -/
theorem test_decode_register_reads :
    [ 0x0, 0x4, 0x8, 0xC, 0x10, 0x14, 0x18, 0x20, 0x24, 0x28, 0x2C, 0x30,
      0x34, 0x38, 0x40, 0x44, 0x48 ].map (decodeTableWord 16) =
    (([ .rdId, .rdStatus, .rdCmd, .rdArg0, .rdArg1,
      .rdRdata, .rdOutLen, .rdCfgWidth, .rdCfgHeight, .rdCfgModes,
      .rdCfgScan, .rdCfgBitord, .rdCfgRowOffset, .rdCfgColOffset, .rdFbWidth,
      .rdFbHeight, .rdFbMode ] : List Instr).map some) := by decide

/-- Every register write at its offset of 30_encoding.md R82, DATA zero. -/
theorem test_decode_register_writes :
    [ 0x100, 0x104, 0x108, 0x10C, 0x110, 0x114, 0x118, 0x120, 0x124, 0x128, 0x12C, 0x130,
      0x134, 0x138, 0x140, 0x144, 0x148 ].map (decodeTableWord 16) =
    (([ .wrIdReadOnly 0#32, .wrStatusReadOnly 0#32, .wrCmd 0#32, .wrArg0 0#32, .wrArg1 0#32,
      .wrRdataReadOnly 0#32, .wrOutLenReadOnly 0#32, .wrCfgWidth 0#32, .wrCfgHeight 0#32, .wrCfgModes 0#32,
      .wrCfgScan 0#32, .wrCfgBitord 0#32, .wrCfgRowOffset 0#32, .wrCfgColOffset 0#32, .wrFbWidthReadOnly 0#32,
      .wrFbHeightReadOnly 0#32, .wrFbModeReadOnly 0#32 ] : List Instr).map some) := by decide

/-- Every reserved offset of 30_encoding.md R91, read. -/
theorem test_decode_reserved_reads :
    [ 0x1C, 0x3C, 0x4C, 0x50, 0x54, 0x58, 0x5C, 0x60, 0x64, 0x68, 0x6C, 0x70,
      0x74, 0x78, 0x7C, 0x80, 0x84, 0x88, 0x8C, 0x90, 0x94, 0x98, 0x9C, 0xA0,
      0xA4, 0xA8, 0xAC, 0xB0, 0xB4, 0xB8, 0xBC, 0xC0, 0xC4, 0xC8, 0xCC, 0xD0,
      0xD4, 0xD8, 0xDC, 0xE0, 0xE4, 0xE8, 0xEC, 0xF0, 0xF4, 0xF8, 0xFC ].map (decodeTableWord 16) =
    (([ .rdReserved1C, .rdReserved3C, .rdReserved4C, .rdReserved50, .rdReserved54,
      .rdReserved58, .rdReserved5C, .rdReserved60, .rdReserved64, .rdReserved68,
      .rdReserved6C, .rdReserved70, .rdReserved74, .rdReserved78, .rdReserved7C,
      .rdReserved80, .rdReserved84, .rdReserved88, .rdReserved8C, .rdReserved90,
      .rdReserved94, .rdReserved98, .rdReserved9C, .rdReservedA0, .rdReservedA4,
      .rdReservedA8, .rdReservedAC, .rdReservedB0, .rdReservedB4, .rdReservedB8,
      .rdReservedBC, .rdReservedC0, .rdReservedC4, .rdReservedC8, .rdReservedCC,
      .rdReservedD0, .rdReservedD4, .rdReservedD8, .rdReservedDC, .rdReservedE0,
      .rdReservedE4, .rdReservedE8, .rdReservedEC, .rdReservedF0, .rdReservedF4,
      .rdReservedF8, .rdReservedFC ] : List Instr).map some) := by decide

/-- Every reserved offset of 30_encoding.md R91, written with DATA zero. -/
theorem test_decode_reserved_writes :
    [ 0x11C, 0x13C, 0x14C, 0x150, 0x154, 0x158, 0x15C, 0x160, 0x164, 0x168, 0x16C, 0x170,
      0x174, 0x178, 0x17C, 0x180, 0x184, 0x188, 0x18C, 0x190, 0x194, 0x198, 0x19C, 0x1A0,
      0x1A4, 0x1A8, 0x1AC, 0x1B0, 0x1B4, 0x1B8, 0x1BC, 0x1C0, 0x1C4, 0x1C8, 0x1CC, 0x1D0,
      0x1D4, 0x1D8, 0x1DC, 0x1E0, 0x1E4, 0x1E8, 0x1EC, 0x1F0, 0x1F4, 0x1F8, 0x1FC ].map (decodeTableWord 16) =
    (([ .wrReserved1C 0#32, .wrReserved3C 0#32, .wrReserved4C 0#32, .wrReserved50 0#32, .wrReserved54 0#32,
      .wrReserved58 0#32, .wrReserved5C 0#32, .wrReserved60 0#32, .wrReserved64 0#32, .wrReserved68 0#32,
      .wrReserved6C 0#32, .wrReserved70 0#32, .wrReserved74 0#32, .wrReserved78 0#32, .wrReserved7C 0#32,
      .wrReserved80 0#32, .wrReserved84 0#32, .wrReserved88 0#32, .wrReserved8C 0#32, .wrReserved90 0#32,
      .wrReserved94 0#32, .wrReserved98 0#32, .wrReserved9C 0#32, .wrReservedA0 0#32, .wrReservedA4 0#32,
      .wrReservedA8 0#32, .wrReservedAC 0#32, .wrReservedB0 0#32, .wrReservedB4 0#32, .wrReservedB8 0#32,
      .wrReservedBC 0#32, .wrReservedC0 0#32, .wrReservedC4 0#32, .wrReservedC8 0#32, .wrReservedCC 0#32,
      .wrReservedD0 0#32, .wrReservedD4 0#32, .wrReservedD8 0#32, .wrReservedDC 0#32, .wrReservedE0 0#32,
      .wrReservedE4 0#32, .wrReservedE8 0#32, .wrReservedEC 0#32, .wrReservedF0 0#32, .wrReservedF4 0#32,
      .wrReservedF8 0#32, .wrReservedFC 0#32 ] : List Instr).map some) := by decide

/-- The six misaligned classes (30_encoding.md R91): OFF = 0x1D, 0x1E, 0x1F, and 0xFD, 0xFE, 0xFF written. -/
theorem test_decode_misaligned :
    [0b000011101, 0b000011110, 0b000011111, 0b111111101, 0b111111110, 0b111111111].map (decodeTableWord 16) =
    ([.rdMisaligned1 7#6, .rdMisaligned2 7#6, .rdMisaligned3 7#6, .wrMisaligned1 63#6 0#32,
      .wrMisaligned2 63#6 0#32, .wrMisaligned3 63#6 0#32] : List Instr).map some := by decide

/-- The command words of 30_encoding.md R84, and refused ones of R91: 0x05, 0xFF, 0x110, 0x80000001. -/
theorem test_decode_commands :
    [0x1, 0x2, 0x3, 0x4, 0x10, 0x0, 0x5, 0xFF, 0x110, 0x80000001].map (decodeTableWord 32) =
    ([.fbSetup, .fbWrite, .fbRead, .fbFill, .generate, .reservedCommand 0#8, .reservedCommand 5#8,
      .reservedCommand 0xFF#8, .illegalCommand 1#24 0x10#8, .illegalCommand 0x800000#24 1#8] : List Instr).map some := by
  decide

/-- `WR CFG_WIDTH, 8` of 30_encoding.md R94, bit by bit: W = 1, OFF = 0010 0000, DATA = 8. -/
theorem test_decode_assembler_example :
    decodeAccess (AsmLine.access (.wr (.reg .cfgWidth) 8#32)) = .ok (.wrCfgWidth 8#32) ∧
    (AsmLine.access (.wr (.reg .cfgWidth) 8#32)).descriptor = 0b100100000#9 ∧
    decodeTableWord 48 (0b100100000 + 8 * 65536) = some (.wrCfgWidth 8#32) := ⟨rfl, by decide, by decide⟩

/-- Bits that are no descriptor are refused by name. -/
theorem test_decode_refuses_wide_descriptor :
    decodeTableWord 16 512 = none ∧ decodeTableWord 64 0 = none := by decide

/-! ## Reads and refused accesses (95_test_vectors.md 2.1) -/

/-- L2-R1, L2-R4: ID and CFG_MODES after reset. -/
theorem test_read_after_reset :
    after lastResponse .rdId base = some (some { resp := .okay, rdata := some 0x444F5401#32 }) ∧
    after lastResponse .rdCfgModes base = some (some { resp := .okay, rdata := some 1#32 }) := by decide

/-- L2-R16: STATUS of a halted core. -/
theorem test_read_status_halted :
    after lastResponse .rdStatus halted = some (some { resp := .okay, rdata := some 0x0000010B#32 }) := by decide

/-- L2-R8, L2-R9: reads of 0xFC and 0x02. -/
theorem test_read_refused :
    outcome .rdReservedFC base = some (0, some { resp := .error, rdata := some 0#32 }) ∧
    outcome (.rdMisaligned2 0#6) base = some (0, some { resp := .error, rdata := some 0#32 }) := by decide

/-- L2-R11, L2-R13: a write to STATUS with RESULT = 3, and a misaligned write. -/
theorem test_write_refused :
    outcome (.wrStatusReadOnly 0#32) { base with result := 3#8 } = error 12 ∧
    outcome (.wrMisaligned1 7#6 1#32) base = error 12 := by decide

/-- L2-R15, L2-R17: writes to a halted core change nothing. -/
theorem test_write_halted :
    exec (.wrCfgWidth 8#32) halted = .next { halted with responses := [writeError] } ∧
    exec (.wrArg0 1#32) halted = .next { halted with responses := [writeError] } := ⟨rfl, rfl⟩

/-! ## Storage writes and setters (95_test_vectors.md 2.1, 2.2) -/

/-- L2-R14: a storage write keeps RESULT. -/
theorem test_arg0_keeps_result :
    after (fun t => (t.arg0, t.result)) (.wrArg0 0x12345678#32) { base with result := 6#8 } =
      some (0x12345678#32, 6#8) := by decide

theorem test_arg1_stores : after (fun t => t.arg1) (.wrArg1 0x00FF0000#32) base = some 0x00FF0000#32 := by decide

/-- L2-CFG2 to L2-CFG6. -/
theorem test_width_bounds :
    [0#32, 0xFFFFFFFF#32, 0x80000000#32, 65536#32].map (fun d => outcome (.wrCfgWidth d) base) =
      List.replicate 4 (error 3) ∧
    after (fun t => t.cfgWidth) (.wrCfgWidth 65535#32) base = some 65535#32 := by decide

/-- L2-CFG7, L2-CFG8. -/
theorem test_height_bounds :
    after (fun t => (t.cfgHeight, t.result)) (.wrCfgHeight 12#32) { base with cfgScan := 4#32 } = some (12#32, 0#8) ∧
    outcome (.wrCfgHeight 0#32) base = error 3 := by decide

/-- L2-CFG9 to L2-CFG13. -/
theorem test_modes :
    after (fun t => t.cfgModes) (.wrCfgModes 0x0C#32) base = some 0x0C#32 ∧
    [0#32, 0x20#32, 0x21#32].map (fun d => outcome (.wrCfgModes d) base) = [error 3, error 2, error 2] := by decide

/-- L2-CFG14, L2-CFG15. -/
theorem test_scan :
    after (fun t => t.cfgScan) (.wrCfgScan 5#32) base = some 5#32 ∧ outcome (.wrCfgScan 6#32) base = error 2 := by decide

/-- L2-CFG17, L2-CFG18. -/
theorem test_bitord :
    after (fun t => t.cfgBitord) (.wrCfgBitord 1#32) base = some 1#32 ∧ outcome (.wrCfgBitord 2#32) base = error 2 := by
  decide

/-- L2-CFG19 to L2-CFG22. -/
theorem test_offsets :
    after (fun t => t.cfgRowOffset) (.wrCfgRowOffset 0x7FFFFFFF#32) base = some 0x7FFFFFFF#32 ∧
    outcome (.wrCfgRowOffset 0x80000000#32) base = error 3 ∧
    after (fun t => t.cfgColOffset) (.wrCfgColOffset 2#32) base = some 2#32 ∧
    outcome (.wrCfgColOffset 0xFFFFFFFF#32) base = error 3 := by decide

/-! ## Framebuffer commands (95_test_vectors.md 2.3) -/

/-- L2-F1 and L2-F21: a new framebuffer, the old contents gone. -/
theorem test_setup :
    after (fun t => (t.fbWidth, t.fbHeight, t.fbMode, t.fb)) .fbSetup
      { panel .gray8 4 4 0#32 0#32 [(1, 2, 0xAB#32)] with arg0 := 0x00400080#32, arg1 := 0#32 } =
      some (128#16, 64#16, .mono, []) := by decide

/-- L2-F2 to L2-F5: the mode before the dimensions. -/
theorem test_setup_errors :
    [(0x00010001#32, 8#32), (0x00010000#32, 0#32), (0x00000001#32, 0#32), (0#32, 9#32)].map
      (fun a => outcome .fbSetup { base with arg0 := a.1, arg1 := a.2 }) = [error 2, error 3, error 3, error 2] := by
  decide

/-- L2-F6: a pixel written and read back. -/
theorem test_write_then_read :
    after (fun t => after (fun u => u.rdata) .fbRead t) .fbWrite
      { panel .gray8 4 4 0#32 0#32 [] with arg0 := 0x00020001#32, arg1 := 0xAB#32 } = some (some 0xAB#32) := by decide

/-- L2-F8 to L2-F13: the coordinate before the value, and the value's range. -/
theorem test_write_errors :
    [(0x00000004#32, 0x01#32), (0x00040000#32, 0x01#32), (0x00000004#32, 0x100#32), (0#32, 0x100#32)].map
      (fun a => outcome .fbWrite { panel .gray8 4 4 0#32 0#32 [] with arg0 := a.1, arg1 := a.2 }) =
      [error 4, error 4, error 4, error 3] ∧
    outcome .fbWrite { panel .rgb888 1 1 0#32 0#32 [] with arg1 := 0x01000000#32 } = error 3 := by decide

/-- L2-F20: a failed read keeps RDATA. -/
theorem test_read_out_of_range :
    after (fun t => (t.rdata, t.result)) .fbRead
      { panel .gray8 4 4 0#32 0#32 [(1, 2, 0xAB#32)] with arg0 := 0x00040004#32, rdata := 7#32 } = some (7#32, 4#8) := by
  decide

/-- L2-F15 to L2-F18: a filled framebuffer, a value out of range, and the reset framebuffer. -/
theorem test_fill :
    after (fun t => (allCoords 2 2).map fun c => fbRead t.fb t.fbMode c.1 c.2) .fbFill
      { panel .rgb565 2 2 0#32 0#32 [(1, 1, 7#32)] with arg1 := 0xF800#32 } = some (List.replicate 4 0xF800#32) ∧
    outcome .fbFill { panel .rgb565 2 2 0#32 0#32 [] with arg1 := 0x10000#32 } = error 3 ∧
    exec .fbFill { base with arg1 := 1#32 } = .next { base with arg1 := 1#32, responses := [writeOkay] } ∧
    outcome .fbFill { base with arg1 := 2#32 } = error 3 := ⟨by decide, by decide, rfl, by decide⟩

/-- L2-F14: all 32 bits of an RGBA8888 pixel are kept. -/
theorem test_rgba_pixel :
    fbRead (fbWrite [] .rgba8888 0 0 0xFFFFFFFF#32) .rgba8888 0 0 = 0xFFFFFFFF#32 := by decide

/-! ## Scan orders (95_test_vectors.md 2.4) -/

/-- L2-S1 to L2-S4. -/
theorem test_scan_rows_and_columns :
    scanSeq .rowMajor 3 2 = [(0, 0), (1, 0), (2, 0), (0, 1), (1, 1), (2, 1)] ∧
    scanSeq .rowMajorReversed 3 2 = [(2, 0), (1, 0), (0, 0), (2, 1), (1, 1), (0, 1)] ∧
    scanSeq .columnMajor 3 2 = [(0, 0), (0, 1), (1, 0), (1, 1), (2, 0), (2, 1)] ∧
    scanSeq .columnMajorReversed 3 2 = [(0, 1), (0, 0), (1, 1), (1, 0), (2, 1), (2, 0)] := by decide

/-- L2-S7, L2-S8: the starts of the four groups. -/
theorem test_scan_pages :
    [0, 7, 8, 16, 24, 31].map (fun k => (scanSeq .pageColumn 2 16)[k]?) =
      [some (0, 0), some (0, 7), some (1, 0), some (0, 8), some (1, 8), some (1, 15)] ∧
    [0, 7, 8, 16, 24, 31].map (fun k => (scanSeq .pageColumnReversed 2 16)[k]?) =
      [some (0, 7), some (0, 0), some (1, 7), some (0, 15), some (1, 15), some (1, 8)] := by decide

/-! ## Bit coder (95_test_vectors.md 2.5) -/

/-- L2-B1 to L2-B4. -/
theorem test_encode8 :
    encode8 .msb [1, 0, 1, 1, 0, 0, 1, 0] = .ok 0xB2#8 ∧ encode8 .lsb [1, 0, 1, 1, 0, 0, 1, 0] = .ok 0x4D#8 ∧
    encode8 .msb [1, 1, 0, 0, 0, 0, 0, 0] = .ok 0xC0#8 ∧ encode8 .lsb [1, 1, 0, 0, 0, 0, 0, 0] = .ok 0x03#8 :=
  ⟨rfl, rfl, rfl, rfl⟩

/-- L2-B8, L2-B10, L2-B16: padding, and the two model faults. -/
theorem test_coder_misuse :
    padTo8 [1, 1] = .ok [1, 1, 0, 0, 0, 0, 0, 0] ∧
    padTo8 (List.replicate 9 0) = .error .modelFaultArityError ∧
    encode8 .msb [2, 0, 0, 0, 0, 0, 0] = .error .modelFaultArityError ∧
    encode8 .msb [2, 0, 0, 0, 0, 0, 0, 0] = .error .modelFaultInvalidBitValue := ⟨rfl, rfl, rfl, rfl⟩

/-- L2-B11, L2-B12. -/
theorem test_decode_and_reverse :
    decodeByte 0xB2#8 = [1, 0, 1, 1, 0, 0, 1, 0] ∧
    [0x01#8, 0x12#8, 0x34#8, 0x56#8, 0x78#8, 0x96#8].map rev8 =
      [0x80#8, 0x48#8, 0x2C#8, 0x6A#8, 0x1E#8, 0x69#8] := by decide

/-! ## GENERATE (95_test_vectors.md 2.6) -/

/-- The 3 by 3 picture of L2-G1 to L2-G5. -/
def nine : List (Nat × Nat × Word) := [(0, 0, 1#32), (2, 0, 1#32), (1, 1, 1#32), (2, 2, 1#32)]

/-- L2-G1, L2-G2, L2-G5. -/
theorem test_generate_mono :
    frame (panel .mono 3 3 0#32 0#32 nine) = some (some [0xA8#8, 0x80#8], 2) ∧
    frame (panel .mono 3 3 0#32 1#32 nine) = some (some [0x15#8, 0x01#8], 2) ∧
    frame (panel .mono 3 3 3#32 1#32 nine) = some (some [0x54#8, 0x01#8], 2) := by decide

/-- L2-G8, L2-G9: two pages. -/
theorem test_generate_mono_pages :
    frame (panel .mono 2 16 4#32 0#32 [(0, 0, 1#32), (1, 9, 1#32), (0, 15, 1#32)]) =
      some (some [0x80#8, 0x00#8, 0x01#8, 0x40#8], 4) ∧
    frame (panel .mono 2 16 5#32 0#32 [(0, 0, 1#32), (1, 9, 1#32), (0, 15, 1#32)]) =
      some (some [0x01#8, 0x00#8, 0x80#8, 0x02#8], 4) := by decide

/-- L2-G10 (vertical_reversed) and L2-G11: gray is never reordered. -/
theorem test_generate_gray :
    frame (panel .gray8 2 2 3#32 1#32 [(0, 0, 0x10#32), (1, 0, 0x20#32), (0, 1, 0x30#32), (1, 1, 0x40#32)]) =
      some (some [0x30#8, 0x10#8, 0x40#8, 0x20#8], 4) ∧
    frame (panel .gray8 1 1 0#32 1#32 [(0, 0, 0xB2#32)]) = some (some [0xB2#8], 1) := by decide

/-- L2-G13: high byte first under both bit orders. -/
theorem test_generate_rgb565 :
    frame (panel .rgb565 2 1 0#32 1#32 [(0, 0, 0xF800#32), (1, 0, 0x07E0#32)]) =
      some (some [0xF8#8, 0x00#8, 0x07#8, 0xE0#8], 4) := by decide

/-- L2-G15, L2-G16: the channel bytes reversed under LSB, alpha last. -/
theorem test_generate_channels :
    frame (panel .rgb888 1 1 0#32 1#32 [(0, 0, 0x00B20180#32)]) = some (some [0x4D#8, 0x80#8, 0x01#8], 3) ∧
    frame (panel .rgba8888 1 1 0#32 0#32 [(0, 0, 0x12345678#32)]) =
      some (some [0x12#8, 0x34#8, 0x56#8, 0x78#8], 4) ∧
    frame (panel .rgba8888 1 1 0#32 1#32 [(0, 0, 0x12345678#32)]) =
      some (some [0x48#8, 0x2C#8, 0x6A#8, 0x1E#8], 4) := by decide

/-- L2-E1, L2-E4, L2-E5, L2-E6: the order of the checks; OUT_LEN becomes 0. -/
theorem test_generate_errors :
    outcome .generate base = error 6 ∧
    outcome .generate { panel .gray8 2 3 0#32 0#32 [] with cfgHeight := 2#32, cfgModes := 1#32 } = error 6 ∧
    outcome .generate { panel .gray8 2 4 4#32 0#32 [] with cfgModes := 1#32 } = error 7 ∧
    after (fun t => (t.result, t.outLen, t.out)) .generate { panel .mono 2 4 5#32 0#32 [] with outLen := 8#32 } =
      some (8#8, 0#32, []) := by decide

/-- L2-G14: the fatal path. -/
theorem test_generate_unmapped :
    after (fun t => (t.result, t.fatal, t.out)) .generate (panel .mono 1 1 6#32 0#32 []) = some (11#8, true, []) ∧
    after (fun t => (t.result, t.fatal, t.out)) .generate (panel .mono 1 1 0#32 2#32 []) = some (11#8, true, []) := by
  decide

/-! ## WR CMD and the port -/

/-- L2-F22, L2-F23: illegal and reserved command words. -/
theorem test_command_words :
    [0#32, 5#32, 0x11#32, 0xFF#32, 0x110#32, 0x80000001#32].map (fun d => outcome (.wrCmd d) base) =
      List.replicate 6 (error 13) ∧
    outcome (.illegalCommand 1#24 0x10#8) base = error 13 ∧ outcome (.reservedCommand 5#8) base = error 13 := by decide

/-- A row's bits presented to the reset machine are what the next step runs. -/
theorem test_step_runs_presented_access :
    step (State.reset.withFetchWord 32 0x10) = exec .generate State.reset ∧
    step (State.reset.withFetchWord 16 0x108) = exec (.wrCmd 0#32) State.reset ∧
    step (State.reset.withFetchWord 16 0x000) = exec .rdId State.reset := ⟨rfl, rfl, rfl⟩

/-- The reset input ends the halt (70_reset_and_hazards.md R272). -/
theorem test_reset_input : step { halted with inputs := [.reset] } = .next base := rfl

/-- PIX 3, 7, p of 30_encoding.md R95. -/
theorem test_pseudo_pix :
    (Pseudo.pix 3#16 7#16 9#32).expand =
      [.write 0x0C#8 0x00070003#32, .write 0x10#8 9#32, .write 0x08#8 2#32] := by decide

/-! ## Witnesses: the hypotheses of the statements can be met, clause by clause -/

theorem witness_DecodeOfEncode : (Instr.illegalCommand 1#24 0#8).wellFormed = true ∧
    (Instr.reservedCommand 0x11#8).wellFormed = true ∧ Instr.rdId.wellFormed = true := by decide

theorem witness_EncodeOfDecode : decode (.acc (.read 0xFC#8)) = .ok .rdReservedFC ∧
    decode (.cmd 0x10#32) = .ok .generate := ⟨rfl, rfl⟩

theorem witness_StepRunsDecodedInstruction :
    decode (.cmd 0x01#32) = .ok .fbSetup ∧
    ({ base with inputs := [.access (.write 0x08#8 0x01#32)] } : State).inputs =
      .access (Encoding.cmd 0x01#32).access :: [] := ⟨rfl, rfl⟩

theorem witness_StepWithoutInputIdles : base.inputs = [] := rfl

theorem witness_EachAccessGetsOneResponse :
    ({ base with inputs := [.access (.read 0x00#8)] } : State).inputs = .access (.read 0x00#8) :: [] := rfl

theorem witness_ResetInputGivesResetState : ({ halted with inputs := [.reset] } : State).inputs = .reset :: [] := rfl

/-- A halted core with a framebuffer, and the reset input: the hypotheses of all three clauses, together. -/
theorem witness_OnlyResetClearsFatalAndDescriptor :
    let s : State := { panel .mono 8 8 0#32 0#32 [] with fatal := true, result := 11#8, inputs := [.reset] }
    step s = .next base ∧ s.fatal = true ∧ base.fatal = false ∧ ¬ (s.fbWidth = 0#16 ∧ s.fbHeight = 0#16) ∧
    base.fbWidth = 0#16 ∧ base.fbHeight = 0#16 := ⟨rfl, rfl, rfl, by decide, rfl, rfl⟩

/-- The edges of the refused reads: the reserved offsets next to registers, and the registers next to them. -/
theorem witness_RefusedReadsAnswerZeroAndError :
    [0x1C#8, 0x3C#8, 0x4C#8, 0xFC#8].all reservedOffset = true ∧
    [0x18#8, 0x20#8, 0x38#8, 0x40#8, 0x48#8, 0x4D#8].any reservedOffset = false ∧
    decodeAccess (.read 0x4C#8) = .ok .rdReserved4C ∧ accessClass .rdReserved4C = .refusedRead ∧
    decodeAccess (.read 0x01#8) = .ok (.rdMisaligned1 0#6) ∧ accessClass (.rdMisaligned1 0#6) = .refusedRead ∧
    decodeAccess (.read 0x48#8) = .ok .rdFbMode ∧ accessClass .rdFbMode = .read :=
  ⟨by decide, by decide, rfl, rfl, rfl, rfl, rfl, rfl⟩

theorem witness_RefusedWritesRaiseAccessError :
    [0x00#8, 0x04#8, 0x14#8, 0x18#8, 0x40#8, 0x44#8, 0x48#8].all readOnlyOffset = true ∧
    decodeAccess (.write 0x48#8 1#32) = .ok (.wrFbModeReadOnly 1#32) ∧
    accessClass (.wrFbModeReadOnly 1#32) = .refusedWrite ∧
    accessClass (.wrReserved1C 0#32) = .refusedWrite ∧ accessClass (.wrMisaligned3 0#6 0#32) = .refusedWrite ∧
    accessClass (.wrArg0 0#32) ≠ .refusedWrite ∧ base.fatal = false ∧ halted.fatal = true :=
  ⟨by decide, rfl, rfl, rfl, rfl, by decide, rfl, rfl⟩

theorem witness_HaltedCoreRefusesEveryWrite :
    halted.fatal = true ∧ isWrite .generate = true ∧ isWrite (.wrIdReadOnly 0#32) = true ∧ isWrite .rdId = false ∧
    isWrite .rdStatus = false ∧ step { halted with inputs := [.reset] } = .next base ∧ base.fatal = false :=
  ⟨rfl, rfl, rfl, rfl, rfl, rfl, rfl⟩

theorem witness_ReadsChangeNothingAndRepeat : isWrite .rdRdata = false ∧ isWrite .rdReserved1C = false := by decide

/-- The last clause at the last pixel of a gray framebuffer, with the least word that is no gray pixel. -/
theorem witness_StorageWritesStoreOnly : base.fatal = false ∧ halted.fatal = true ∧
    validPixel .gray8 0x100#32 = false ∧
    after (fun t => outcome .fbFill t) (.wrArg1 0x100#32) (panel .gray8 4 4 0#32 0#32 []) = some (error 3) ∧
    after (fun t => outcome .fbWrite t) (.wrArg1 0x100#32)
      { panel .gray8 4 4 0#32 0#32 [] with arg0 := 0x00030003#32 } = some (error 3) := by decide

/-- The least and the greatest width, the words next to them, and the most negative one. -/
theorem witness_DimensionSetters :
    base.fatal = false ∧
    [1#32, 65535#32].all (fun d => decide (1 ≤ d.toInt ∧ d.toInt ≤ base.params.maxWidth)) = true ∧
    [0#32, 65536#32, 0x80000000#32, 0xFFFFFFFF#32].any
      (fun d => decide (1 ≤ d.toInt ∧ d.toInt ≤ base.params.maxHeight)) = false ∧
    after lastResponse (.wrCfgHeight 12#32) (panel .mono 2 12 4#32 0#32 []) = some (some writeOkay) ∧
    after (outcome .generate) (.wrCfgHeight 12#32) (panel .mono 2 12 4#32 0#32 []) = some (error 8) := by decide

theorem witness_ModesSetter : base.fatal = false ∧ 32 ≤ (32#32).toNat ∧ (0#32).toNat = 0 ∧
    ¬ 32 ≤ (31#32).toNat ∧ ¬ 32 ≤ (1#32).toNat ∧
    after lastResponse (.wrCfgModes 0x0C#32) (panel .gray8 2 2 0#32 0#32 []) = some (some writeOkay) ∧
    after (outcome .generate) (.wrCfgModes 0x0C#32) (panel .gray8 2 2 0#32 0#32 []) = some (error 7) := by decide

theorem witness_ScanAndBitOrderSetters : base.fatal = false ∧ (5#32).toNat ≤ 5 ∧ ¬ (6#32).toNat ≤ 5 ∧
    (1#32).toNat ≤ 1 ∧ ¬ (2#32).toNat ≤ 1 := by decide

theorem witness_OffsetSetters : base.fatal = false ∧ 0 ≤ (0x7FFFFFFF#32).toInt ∧ 0 ≤ (0#32).toInt ∧
    ¬ 0 ≤ (0x80000000#32).toInt ∧ (exec .rdStatus base matches .next _) = true ∧
    Instr.rdStatus ≠ .rdCfgRowOffset ∧ setterOf .rdStatus ≠ some .cfgRowOffset ∧
    Instr.rdStatus ≠ .rdCfgColOffset ∧ setterOf .rdStatus ≠ some .cfgColOffset :=
  ⟨rfl, by decide, by decide, by decide, rfl, by decide, by decide, by decide, by decide⟩

/-- L2-CFG24: CFG_SCAN 4, then CFG_HEIGHT 8. -/
theorem witness_SuccessfulSettersCommute :
    setterOf (.wrCfgScan 4#32) = some .cfgScan ∧ setterOf (.wrCfgHeight 8#32) = some .cfgHeight ∧
    RegName.cfgScan ≠ RegName.cfgHeight ∧
    after (fun t => (lastResponse t, after lastResponse (.wrCfgHeight 8#32) t)) (.wrCfgScan 4#32) base =
      some (some writeOkay, some (some writeOkay)) := by decide

/-- Command words at the edges of the clauses: 0, 1, 4, 5, 0x10, 0xFF and 0x100. -/
theorem witness_CommandWriteDispatches :
    base.fatal = false ∧ 256 ≤ (0x100#32).toNat ∧ (exec (.wrCmd 0x11#32) base matches .next _) = true ∧
    [0#32, 1#32, 2#32, 3#32, 4#32, 5#32, 0x10#32, 0xFF#32].any (fun d => decide (256 ≤ d.toNat)) = false := by decide

theorem witness_RefusedCommandWordsChangeOnlyResult : base.fatal = false := rfl

/-- Each clause of FB_SETUP at an edge: mode 5; no width; the greatest width but no room; and 65535 by 1 with room. -/
theorem witness_FbSetupMakesZeroFramebuffer :
    base.fatal = false ∧ 4 < (5#32).toNat ∧ (4#32).toNat = ColorMode.rgba8888.code ∧
    (0x00010000#32).toNat % 65536 < 1 ∧ (0x0001FFFF#32).toNat % 65536 = 65535 ∧ (0x0001FFFF#32).toNat / 65536 = 1 ∧
    base.params.fbMaxPixels < 65535 * 1 ∧
    (let s : State := { base with
        params := { maxWidth := 65535, maxHeight := 65535, fbMaxPixels := 65535 }, arg0 := 0x0001FFFF#32, arg1 := 4#32 };
      s.fatal = false ∧ 1 ≤ s.arg0.toNat % 65536 ∧ s.arg0.toNat % 65536 ≤ s.params.maxWidth ∧
      1 ≤ s.arg0.toNat / 65536 ∧ s.arg0.toNat / 65536 ≤ s.params.maxHeight ∧
      s.arg0.toNat % 65536 * (s.arg0.toNat / 65536) ≤ s.params.fbMaxPixels ∧ s.arg1.toNat = ColorMode.rgba8888.code) := by
  decide

/-- Each clause of FB_WRITE at an edge: x = FB_WIDTH; the last pixel with a value one too large; the last pixel with
the largest value, stored canonically. -/
theorem witness_FbWriteStoresOnePixel :
    let s : State := panel .gray8 4 4 0#32 0#32 [(1, 2, 0xAB#32)]
    s.fatal = false ∧ s.fbWidth.toNat ≤ (0x00000004#32).toNat % 65536 ∧
    (0x00030003#32).toNat % 65536 < s.fbWidth.toNat ∧ (0x00030003#32).toNat / 65536 < s.fbHeight.toNat ∧
    validPixel s.fbMode 0x100#32 = false ∧ validPixel s.fbMode 0xFF#32 = true ∧ s.fb.wf := by decide

theorem witness_FbReadReturnsPixel :
    let s : State := panel .gray8 4 4 0#32 0#32 []
    s.fatal = false ∧ (0x00030003#32).toNat % 65536 < s.fbWidth.toNat ∧ (0x00030003#32).toNat / 65536 < s.fbHeight.toNat ∧
    ¬ (0x00000004#32).toNat % 65536 < s.fbWidth.toNat := by decide

theorem witness_FbFillFillsEveryPixel :
    let s : State := panel .rgb565 2 2 0#32 0#32 [(1, 1, 7#32)]
    s.fatal = false ∧ validPixel s.fbMode 0x10000#32 = false ∧ validPixel s.fbMode 0xFFFF#32 = true ∧ s.fb.wf ∧
    (1 < s.fbWidth.toNat ∧ 1 < s.fbHeight.toNat) ∧ inFrame s.fbMode s.fbWidth.toNat s.fbHeight.toNat 8 = false ∧
    base.fbWidth = 0#16 ∧ base.fbHeight = 0#16 ∧ base.fatal = false ∧ validPixel base.fbMode 1#32 = true ∧
    base.fb.wf := by decide

theorem witness_FillIsTheLoopOfPixelWrites : Memory.wf [(5, 1#8)] ∧ 65535 ≤ 65535 := by decide

theorem witness_StoredPixelsAreValid : Memory.wf [(5, 1#8)] ∧ 65535 < 65536 ∧ (1#16) ∈ chan .mono 1#32 := by decide

/-- A page geometry and one that needs none, at the first and the last position. -/
theorem witness_ScanLoopsHaveClosedForm :
    (ScanOrder.pageColumn.isPageBased = true → 16 % 8 = 0) ∧ 31 < 2 * 16 ∧ 0 < 2 * 16 ∧
    (ScanOrder.rowMajor.isPageBased = true → 3 % 8 = 0) ∧ 8 < 3 * 3 := by decide

theorem witness_ScanIsBijection : 1 ≤ 2 ∧ 1 ≤ 16 ∧ (ScanOrder.pageColumnReversed.isPageBased = true → 16 % 8 = 0) ∧
    31 < 2 * 16 ∧ 1 < 2 ∧ 15 < 16 := by decide

theorem witness_ScanSequenceListsEachCoordinateOnce :
    (ScanOrder.pageColumn.isPageBased = true → 8 % 8 = 0) ∧ (ScanOrder.columnMajor.isPageBased = true → 3 % 8 = 0) := by
  decide

theorem witness_PageGroupsAreColumns : 16 % 8 = 0 ∧ 3 < 2 * 16 / 8 ∧ 7 < 8 := by decide

theorem witness_EncodeEightPlacesEachBit :
    [1, 0, 1, 1, 0, 0, 1, 0].length = 8 ∧ (∀ b ∈ [1, 0, 1, 1, 0, 0, 1, 0], b ≤ 1) ∧ 7 < 8 := by decide

theorem witness_LsbIsReverseOfMsb :
    7 < 8 ∧ [0, 0, 0, 0, 0, 0, 0, 1].length = 8 ∧ ∀ b ∈ [0, 0, 0, 0, 0, 0, 0, 1], b ≤ 1 := by decide

theorem witness_CoderMisuseIsModelFault :
    (List.replicate 7 1).length ≠ 8 ∧ (List.replicate 9 1).length ≠ 8 ∧ 8 < (List.replicate 9 1).length ∧
    ([2, 0, 0, 0, 0, 0, 0, 0].length = 8 ∧ ∃ b ∈ [2, 0, 0, 0, 0, 0, 0, 0], 1 < b) ∧ (List.replicate 8 1).length ≤ 8 := by
  decide

/-- The four ways past or not past validation: no framebuffer; a mode left out; a height of 4 under by_page. -/
theorem witness_GenerateReportsFirstFailedCheck :
    (base.fatal = false ∧ base.fbWidth.toNat ≠ base.cfgWidth.toNat) ∧
    (let s : State := { panel .gray8 2 4 4#32 0#32 [] with cfgModes := 1#32 };
      s.fatal = false ∧ s.fbWidth.toNat = s.cfgWidth.toNat ∧ s.fbHeight.toNat = s.cfgHeight.toNat ∧
      s.cfgModes.getLsbD s.fbMode.code = false) ∧
    (let s : State := panel .mono 2 4 5#32 0#32 [];
      s.fatal = false ∧ s.fbWidth.toNat = s.cfgWidth.toNat ∧ s.fbHeight.toNat = s.cfgHeight.toNat ∧
      s.cfgModes.getLsbD s.fbMode.code = true ∧ s.cfgScan = 5#32 ∧ s.cfgHeight.toNat % 8 ≠ 0) := by decide

theorem witness_GenerateHaltsOnUnmappedCode :
    (let s : State := panel .mono 1 1 6#32 0#32 [];
      s.fatal = false ∧ s.fbWidth.toNat = s.cfgWidth.toNat ∧ s.fbHeight.toNat = s.cfgHeight.toNat ∧
      s.cfgModes.getLsbD s.fbMode.code = true ∧ ¬ (s.cfgScan = 4#32 ∨ s.cfgScan = 5#32) ∧ 5 < s.cfgScan.toNat) ∧
    (let s : State := panel .mono 1 8 5#32 2#32 [];
      s.fatal = false ∧ s.fbWidth.toNat = s.cfgWidth.toNat ∧ s.fbHeight.toNat = s.cfgHeight.toNat ∧
      s.cfgModes.getLsbD s.fbMode.code = true ∧ s.cfgHeight.toNat % 8 = 0 ∧ 1 < s.cfgBitord.toNat) := by decide

theorem witness_GenerateEmitsOneFrame : Ready (panel .rgb888 2 16 5#32 1#32 []) .pageColumnReversed .lsb :=
  ⟨rfl, rfl, rfl, rfl, fun _ => rfl, rfl, rfl⟩

theorem witness_MonoFrameBits :
    Ready (panel .mono 3 3 0#32 0#32 nine) .rowMajor .msb ∧ (panel .mono 3 3 0#32 0#32 nine).fbMode = .mono ∧
    Ready (panel .mono 3 3 2#32 1#32 nine) .columnMajor .lsb :=
  ⟨⟨rfl, rfl, rfl, rfl, (fun h => nomatch h), rfl, rfl⟩, rfl, ⟨rfl, rfl, rfl, rfl, (fun h => nomatch h), rfl, rfl⟩⟩

theorem witness_GrayFrameBytes :
    Ready (panel .gray8 2 2 3#32 1#32 []) .columnMajorReversed .lsb ∧ (panel .gray8 2 2 3#32 1#32 []).fbMode = .gray8 ∧
    3 < pixelCount (panel .gray8 2 2 3#32 1#32 []) :=
  ⟨⟨rfl, rfl, rfl, rfl, (fun h => nomatch h), rfl, rfl⟩, rfl, by decide⟩

theorem witness_Rgb565FrameBytes :
    Ready (panel .rgb565 1 8 4#32 0#32 []) .pageColumn .msb ∧ (panel .rgb565 1 8 4#32 0#32 []).fbMode = .rgb565 ∧
    7 < pixelCount (panel .rgb565 1 8 4#32 0#32 []) := ⟨⟨rfl, rfl, rfl, rfl, fun _ => rfl, rfl, rfl⟩, rfl, by decide⟩

theorem witness_Rgb888FrameBytes :
    Ready (panel .rgb888 2 1 1#32 1#32 []) .rowMajorReversed .lsb ∧ (panel .rgb888 2 1 1#32 1#32 []).fbMode = .rgb888 ∧
    1 < pixelCount (panel .rgb888 2 1 1#32 1#32 []) :=
  ⟨⟨rfl, rfl, rfl, rfl, (fun h => nomatch h), rfl, rfl⟩, rfl, by decide⟩

theorem witness_Rgba8888FrameBytes :
    Ready (panel .rgba8888 1 1 0#32 1#32 []) .rowMajor .lsb ∧ (panel .rgba8888 1 1 0#32 1#32 []).fbMode = .rgba8888 ∧
    0 < pixelCount (panel .rgba8888 1 1 0#32 1#32 []) :=
  ⟨⟨rfl, rfl, rfl, rfl, (fun h => nomatch h), rfl, rfl⟩, rfl, by decide⟩

/-- Two states that agree on what GENERATE reads and differ in the calibration offsets; both emit a frame. -/
theorem witness_FrameDependsOnlyOnFramebufferAndConfig :
    let s : State := panel .mono 3 3 0#32 0#32 nine
    let t : State := { s with cfgRowOffset := 2#32, arg1 := 7#32 }
    s.fatal = false ∧ t.fatal = false ∧ s.fb = t.fb ∧ s.cfgRowOffset ≠ t.cfgRowOffset ∧
    (frame s).isSome = true ∧ (frame t).isSome = true := by decide

theorem witness_PageLsbEqualsReversedPageMsb :
    (panel .mono 2 16 0#32 0#32 nine).fbMode = .mono ∧
    Ready { panel .mono 2 16 0#32 0#32 nine with cfgScan := 4#32, cfgBitord := 1#32 } .pageColumn .lsb :=
  ⟨rfl, ⟨rfl, rfl, rfl, rfl, fun _ => rfl, rfl, rfl⟩⟩

/-- The invariant holds of the reset state of the implementation the vectors assume, and its next step. -/
theorem witness_StepKeepsInvariant : CoreInv base ∧ step base = .next base :=
  ⟨⟨⟨by decide, by decide, by decide, by decide, by decide⟩,
    ⟨by decide, by decide, by decide, by decide, by decide, by decide, by decide, by decide, by decide, by decide⟩,
    ⟨.inl ⟨rfl, rfl⟩, by decide, by decide, fun _ => by decide⟩, rfl, by decide, by decide⟩, rfl⟩

theorem witness_StepKeepsStatusInvariant :
    (step { halted with inputs := [.access (.read 0x04#8)] } matches .next _) = true ∧ StatusInv halted ∧
    halted.result.toNat ≤ 13 := ⟨rfl, fun _ => rfl, by decide⟩

theorem witness_OperationWritesReportInResult :
    accessClass .generate = .operationWrite ∧ accessClass (.wrCmd 0#32) = .operationWrite ∧ base.fatal = false ∧
    outcome (.wrCfgScan 5#32) base = okay ∧ outcome .generate base = error 6 := by decide

/-- A refused read and a failed GENERATE. -/
theorem witness_FailedAccessChangesOnlyStatus :
    after lastResponse .rdReserved1C base = some (some { resp := .error, rdata := some 0#32 }) ∧
    after lastResponse .generate base = some (some writeError) ∧ commandOf .rdReserved1C ≠ .generate := by decide

theorem witness_OnlyOwnersWriteState :
    (exec (.wrCmd 0x10#32) base matches .next _) = true ∧ commandOf (.wrCmd 0x10#32) = .generate ∧
    commandOf .rdId ≠ .fbSetup ∧ setterOf .rdId ≠ some .cfgWidth ∧ accessClass .rdId = .read ∧
    accessClass .rdReserved1C = .refusedRead ∧ accessClass (.wrArg1 0#32) = .storageWrite :=
  ⟨rfl, rfl, by decide, by decide, rfl, rfl, rfl⟩

theorem witness_OutputStreamIsAppendOnly :
    (exec .generate (panel .gray8 1 1 0#32 0#32 []) matches .next _) = true ∧
    (∀ rest, base.inputs ≠ .reset :: rest) ∧ step base = .next base := ⟨rfl, (fun _ h => nomatch h), rfl⟩

theorem witness_PseudoInstructionsRunTheirCommand : base.fatal = false := rfl

/-- The least codes without a name. -/
theorem witness_CodesNameTheirModesAndStrategies : 4 < (5#32).toNat ∧ 5 < (6#32).toNat ∧ 1 < (2#32).toNat := by decide

/-- The last gray pixel with the least word above its range. -/
theorem witness_PixelRangesAndChannels :
    let s : State := { panel .gray8 4 4 0#32 0#32 [] with arg0 := 0x00030003#32, arg1 := 0x100#32 }
    s.fatal = false ∧ s.fbMode = .gray8 ∧ 0xFF < s.arg1.toNat ∧ s.arg0.toNat % 65536 < s.fbWidth.toNat ∧
    s.arg0.toNat / 65536 < s.fbHeight.toNat := by decide

end Sys2Proof.Tests
end

section
/-! SUPPORT. The shape of every access in each class of 40_config.md R111, its response, and the decoder's rows by
class. -/

namespace Sys2Proof.Machine

/-! ## Failures in the words of the statements -/

@[simp] theorem lastResponse_failedWith (s : State) (c : BitVec 8) :
    lastResponse (failedWith s c) = some writeError := by
  simp [lastResponse, failedWith]

theorem writeError_ne_writeOkay : writeError ≠ writeOkay := by decide

/-! ## Register reads (40_config.md R114) -/

/-- The read of each register. -/
def readInstr : RegName → Instr
  | .id => .rdId
  | .status => .rdStatus
  | .cmd => .rdCmd
  | .arg0 => .rdArg0
  | .arg1 => .rdArg1
  | .rdata => .rdRdata
  | .outLen => .rdOutLen
  | .cfgWidth => .rdCfgWidth
  | .cfgHeight => .rdCfgHeight
  | .cfgModes => .rdCfgModes
  | .cfgScan => .rdCfgScan
  | .cfgBitord => .rdCfgBitord
  | .cfgRowOffset => .rdCfgRowOffset
  | .cfgColOffset => .rdCfgColOffset
  | .fbWidth => .rdFbWidth
  | .fbHeight => .rdFbHeight
  | .fbMode => .rdFbMode

theorem exec_readInstr (r : RegName) (s : State) : exec (readInstr r) s = readRegister r s := by
  cases r <;> rfl

theorem decodeAccess_readInstr (r : RegName) : decodeAccess (.read r.offset) = .ok (readInstr r) := by
  cases r <;> rfl

/-- The reads of the registers are all there is in the class. -/
theorem exists_readInstr {i : Instr} (h : accessClass i = .read) : ∃ r, i = readInstr r := by
  cases i <;> first | (simp [accessClass] at h; done) | skip
  case rdId => exact ⟨.id, rfl⟩
  case rdStatus => exact ⟨.status, rfl⟩
  case rdCmd => exact ⟨.cmd, rfl⟩
  case rdArg0 => exact ⟨.arg0, rfl⟩
  case rdArg1 => exact ⟨.arg1, rfl⟩
  case rdRdata => exact ⟨.rdata, rfl⟩
  case rdOutLen => exact ⟨.outLen, rfl⟩
  case rdCfgWidth => exact ⟨.cfgWidth, rfl⟩
  case rdCfgHeight => exact ⟨.cfgHeight, rfl⟩
  case rdCfgModes => exact ⟨.cfgModes, rfl⟩
  case rdCfgScan => exact ⟨.cfgScan, rfl⟩
  case rdCfgBitord => exact ⟨.cfgBitord, rfl⟩
  case rdCfgRowOffset => exact ⟨.cfgRowOffset, rfl⟩
  case rdCfgColOffset => exact ⟨.cfgColOffset, rfl⟩
  case rdFbWidth => exact ⟨.fbWidth, rfl⟩
  case rdFbHeight => exact ⟨.fbHeight, rfl⟩
  case rdFbMode => exact ⟨.fbMode, rfl⟩

/-! ## Refused accesses and the gate of the writes -/

theorem exec_of_refusedRead {i : Instr} (h : accessClass i = .refusedRead) (s : State) :
    exec i s = .next (readRefused s) := by
  cases i <;> first | (simp [accessClass] at h; done) | rfl

theorem exec_of_refusedWrite {i : Instr} (h : accessClass i = .refusedWrite) (s : State) :
    exec i s = refusedWrite s := by
  cases i <;> first | (simp [accessClass] at h; done) | rfl

theorem exec_of_isWrite {i : Instr} (h : isWrite i = true) (s : State) : ∃ run, exec i s = unlessHalted s run := by
  cases i <;> first | (simp [isWrite, accessClass] at h; done) | exact ⟨_, rfl⟩

/-- A halted core refuses every write (40_config.md R112). -/
theorem exec_of_halted {i : Instr} {s : State} (hf : s.fatal = true) (h : isWrite i = true) :
    exec i s = .next (refuseHalted s) := by
  obtain ⟨run, hrun⟩ := exec_of_isWrite h s
  rw [hrun, unlessHalted_of_fatal hf]

/-- A read that is not refused, or one that is: the class of whatever is no write. -/
theorem accessClass_of_not_isWrite {i : Instr} (h : isWrite i = false) :
    (∃ r, i = readInstr r) ∨ accessClass i = .refusedRead := by
  cases hc : accessClass i with
  | read => exact .inl (exists_readInstr hc)
  | refusedRead => exact .inr rfl
  | storageWrite => simp [isWrite, hc] at h
  | operationWrite => simp [isWrite, hc] at h
  | refusedWrite => simp [isWrite, hc] at h

/-- Whatever is no write answers and does nothing else (40_config.md R111). -/
theorem exec_of_not_isWrite {i : Instr} (h : isWrite i = false) (s : State) :
    ∃ r, exec i s = .next (respond r s) := by
  rcases accessClass_of_not_isWrite h with ⟨r, rfl⟩ | hc
  · exact ⟨_, exec_readInstr r s⟩
  · exact ⟨_, exec_of_refusedRead hc s⟩

/-! ## The rows of the decoder by class (30_encoding.md R82, R91) -/

theorem offLow_toNat (off : Offset) : (offLow off).toNat = off.toNat % 4 := by
  simp [offLow]

theorem mem_of_lookup {α : Type} {off : Offset} {a : α} {l : List (Offset × α)} (h : l.lookup off = some a) :
    (off, a) ∈ l := by
  obtain ⟨l₁, l₂, rfl, -⟩ := List.lookup_eq_some_iff.mp h
  simp

/-- A read that decodes is a misaligned one, or a row of its aligned offset. -/
theorem decodeRead_ok {off : Offset} {i : Instr} (h : decodeRead off = .ok i) :
    (off.toNat % 4 ≠ 0 ∧ accessClass i = .refusedRead) ∨
    (off.toNat % 4 = 0 ∧ (off, i) ∈ registerReadRows ++ reservedReadRows) := by
  have hlow := offLow_toNat off
  unfold decodeRead at h
  split at h
  case isTrue h1 => cases h; exact .inl ⟨by simp [← hlow, h1], rfl⟩
  split at h
  case isTrue h2 => cases h; exact .inl ⟨by simp [← hlow, h2], rfl⟩
  split at h
  case isTrue h3 => cases h; exact .inl ⟨by simp [← hlow, h3], rfl⟩
  split at h
  · rename_i hrow
    cases h
    exact .inr ⟨by bv_omega, mem_of_lookup hrow⟩
  · cases h

/-- A write that decodes is a misaligned one, or a row of its aligned offset. -/
theorem decodeWrite_ok {off : Offset} {data : Word} {i : Instr} (h : decodeWrite off data = .ok i) :
    (off.toNat % 4 ≠ 0 ∧ accessClass i = .refusedWrite) ∨
    (off.toNat % 4 = 0 ∧ ∃ f, (off, f) ∈ registerWriteRows ++ reservedWriteRows ∧ i = f data) := by
  have hlow := offLow_toNat off
  unfold decodeWrite at h
  split at h
  case isTrue h1 => cases h; exact .inl ⟨by simp [← hlow, h1], rfl⟩
  split at h
  case isTrue h2 => cases h; exact .inl ⟨by simp [← hlow, h2], rfl⟩
  split at h
  case isTrue h3 => cases h; exact .inl ⟨by simp [← hlow, h3], rfl⟩
  split at h
  · rename_i f hrow
    cases h
    exact .inr ⟨by bv_omega, f, mem_of_lookup hrow, rfl⟩
  · cases h

theorem registerReadRows_class :
    ∀ row ∈ registerReadRows, accessClass row.2 = .read ∧ reservedOffset row.1 = false := by decide

theorem reservedReadRows_class :
    ∀ row ∈ reservedReadRows, accessClass row.2 = .refusedRead ∧ reservedOffset row.1 = true := by decide

theorem registerWriteRows_class (data : Word) : ∀ row ∈ registerWriteRows,
    (accessClass (row.2 data) = .refusedWrite ↔ readOnlyOffset row.1 = true) ∧ reservedOffset row.1 = false := by
  simp [registerWriteRows, accessClass, readOnlyOffset, reservedOffset]

theorem reservedWriteRows_class (data : Word) : ∀ row ∈ reservedWriteRows,
    accessClass (row.2 data) = .refusedWrite ∧ reservedOffset row.1 = true := by
  simp [reservedWriteRows, accessClass, reservedOffset]

end Sys2Proof.Machine
end

section
/-! The reads and the refused accesses: O11 to O14. -/

namespace Sys2Proof.Machine

/-- The read of a register at its offset gives whatever equals the register's value. -/
theorem readGives_of_regValue {r : RegName} {v : State → Word} (h : ∀ s, regValue r s = v s) :
    ReadGives r.offset (readInstr r) v :=
  ⟨decodeAccess_readInstr r, fun s => by rw [exec_readInstr, readRegister, h]; rfl⟩

theorem statusWord_eq_append (s : State) : statusWord s = 0#23 ++ BitVec.ofBool s.fatal ++ s.result := by
  rw [BitVec.append_assoc]
  simp [statusWord, BitVec.setWidth_eq_append]

theorem setWidth_eq_zero_append (x : BitVec 16) : x.setWidth 32 = 0#16 ++ x := by
  simp [BitVec.setWidth_eq_append]

/-- Settles O12: the misaligned reads and the reserved rows are exactly the refused ones. -/
theorem refusedReadsAnswerZeroAndError : Obligations.RefusedReadsAnswerZeroAndError := by
  refine ⟨fun off i h => ?_, fun i s hc => exec_of_refusedRead hc s⟩
  rcases decodeRead_ok h with ⟨hmis, hc⟩ | ⟨hal, hrow⟩
  · simp [hmis, hc]
  · rcases List.mem_append.mp hrow with hreg | hres
    · obtain ⟨hc, hoff⟩ := registerReadRows_class _ hreg
      simp_all
    · obtain ⟨hc, hoff⟩ := reservedReadRows_class _ hres
      simp_all

/-- Settles O13: the misaligned writes, the reserved rows and the read-only registers' rows are exactly the refused
ones. -/
theorem refusedWritesRaiseAccessError : Obligations.RefusedWritesRaiseAccessError := by
  refine ⟨fun off data i h => ?_, fun i s hc => exec_of_refusedWrite hc s⟩
  rcases decodeWrite_ok h with ⟨hmis, hc⟩ | ⟨hal, f, hrow, rfl⟩
  · simp [hmis, hc]
  · rcases List.mem_append.mp hrow with hreg | hres
    · obtain ⟨hc, hoff⟩ := registerWriteRows_class data _ hreg
      simp_all
    · obtain ⟨hc, hoff⟩ := reservedWriteRows_class data _ hres
      simp_all

/-- STATUS is the only register that shows FATAL. -/
theorem regValue_fatal {r : RegName} (h : r ≠ .status) (s : State) (b : Bool) :
    regValue r { s with fatal := b } = regValue r s := by
  cases r <;> first | rfl | exact absurd rfl h

/-- A read other than that of STATUS answers alike on a halted and on a running core. -/
theorem exec_read_fatal {i : Instr} (h : isWrite i = false) (s : State) :
    ∃ r, exec i s = .next (respond r s) ∧
      (i ≠ .rdStatus → ∀ b, exec i { s with fatal := b } = .next (respond r { s with fatal := b })) := by
  rcases accessClass_of_not_isWrite h with ⟨r, rfl⟩ | hc
  · refine ⟨_, exec_readInstr r s, fun hi b => ?_⟩
    have hr : r ≠ .status := fun hr => hi (by rw [hr, readInstr])
    rw [exec_readInstr, readRegister, regValue_fatal hr, readDone]
  · exact ⟨_, exec_of_refusedRead hc s, fun _ b => exec_of_refusedRead hc _⟩

/-- No access ends the halt: a write is refused and a read only answers. -/
theorem exec_keeps_halt {i : Instr} {s t : State} (hf : s.fatal = true) (h : exec i s = .next t) :
    t.fatal = true := by
  cases hw : isWrite i with
  | true =>
    rw [exec_of_halted hf hw] at h
    cases h
    exact hf
  | false =>
    obtain ⟨r, hr⟩ := exec_of_not_isWrite hw s
    rw [hr] at h
    cases h
    exact hf

/-- Settles O14. -/
theorem haltedCoreRefusesEveryWrite : Obligations.HaltedCoreRefusesEveryWrite := by
  refine ⟨fun i s hf hw => exec_of_halted hf hw, fun i s hf hw => ?_, fun s t hf h hrun => ?_⟩
  · obtain ⟨r, hr, hstatus⟩ := exec_read_fatal hw s
    exact ⟨r, hr, fun hi => hstatus hi false⟩
  · rcases step_next h with ⟨-, rfl⟩ | ⟨rest, hreset, -⟩ | ⟨a, rest, i, -, -, hexec⟩
    · simp [hf] at hrun
    · exact ⟨rest, hreset⟩
    · have hhalted : t.fatal = true := exec_keeps_halt (s := { s with inputs := rest }) hf hexec
      simp [hhalted] at hrun

/-- Settles O11: every register's read gives its value, and the values are those of R114. -/
theorem registerReadsReturnValues : Obligations.RegisterReadsReturnValues :=
  ⟨readGives_of_regValue (r := .id) fun _ => rfl, readGives_of_regValue (r := .status) statusWord_eq_append,
    readGives_of_regValue (r := .cmd) fun _ => rfl, readGives_of_regValue (r := .arg0) fun _ => rfl,
    readGives_of_regValue (r := .arg1) fun _ => rfl, readGives_of_regValue (r := .rdata) fun _ => rfl,
    readGives_of_regValue (r := .outLen) fun _ => rfl, readGives_of_regValue (r := .cfgWidth) fun _ => rfl,
    readGives_of_regValue (r := .cfgHeight) fun _ => rfl, readGives_of_regValue (r := .cfgModes) fun _ => rfl,
    readGives_of_regValue (r := .cfgScan) fun _ => rfl, readGives_of_regValue (r := .cfgBitord) fun _ => rfl,
    readGives_of_regValue (r := .cfgRowOffset) fun _ => rfl, readGives_of_regValue (r := .cfgColOffset) fun _ => rfl,
    readGives_of_regValue (r := .fbWidth) fun s => setWidth_eq_zero_append s.fbWidth,
    readGives_of_regValue (r := .fbHeight) fun s => setWidth_eq_zero_append s.fbHeight,
    readGives_of_regValue (r := .fbMode) fun s => by
      simp only [regValue]
      cases s.fbMode <;> rfl⟩

end Sys2Proof.Machine
end

section
/-! Writes to CMD: O22. -/

namespace Sys2Proof.Machine

/-! ## The fields of a command word (30_encoding.md R83) -/

theorem cmdHigh_eq_zero_iff (w : Word) : cmdHigh w = 0#24 ↔ w.toNat < 256 := by
  simp only [cmdHigh, BitVec.toNat_eq, BitVec.extractLsb'_toNat, Nat.shiftRight_eq_div_pow]
  have := w.isLt
  simp
  omega

/-- Without bits above 7 a command word is its OPC. -/
theorem cmdOpc_eq_iff {w : Word} (h : w.toNat < 256) (opc : BitVec 8) : cmdOpc w = opc ↔ w = opc.setWidth 32 := by
  simp only [cmdOpc, BitVec.toNat_eq, BitVec.extractLsb'_toNat, BitVec.toNat_setWidth]
  have := opc.isLt
  simp
  omega

theorem eq_of_decodeCommand_generate {w : Word} (h : decodeCommand w = .generate) : w = 0x10#32 := by
  unfold decodeCommand at h
  split at h
  · cases h
  · rename_i hhigh
    have hsmall : w.toNat < 256 := (cmdHigh_eq_zero_iff w).mp (by simpa using hhigh)
    repeat' split at h
    all_goals cases h
    exact (cmdOpc_eq_iff hsmall _).mp ‹_›

theorem decodeCommand_ne_wrCmd (w data : Word) : decodeCommand w ≠ .wrCmd data := by
  unfold decodeCommand
  repeat' split
  all_goals exact Instr.noConfusion

/-! ## WR CMD is the command it names (40_config.md R126) -/

theorem isWrite_decodeCommand (w : Word) : isWrite (decodeCommand w) = true := by
  unfold decodeCommand
  repeat' split
  all_goals rfl

/-- The meaning of WR CMD is that of the command row its word names, halted or not. -/
theorem execWrCmd_eq_exec (data : Word) (s : State) : execWrCmd data s = exec (decodeCommand data) s := by
  cases hf : s.fatal with
  | true =>
    rw [exec_of_halted hf (isWrite_decodeCommand data)]
    exact unlessHalted_of_fatal hf _
  | false =>
    refine (unlessHalted_of_running hf _).trans ?_
    unfold decodeCommand
    repeat' split
    all_goals first | rfl | exact (unlessHalted_of_running hf _).symm

/-- Only GENERATE writes FATAL (10_state.md R32). -/
theorem exec_keeps_fatal {i : Instr} {s t : State} (hc : ∀ data, i ≠ .wrCmd data) (hg : i ≠ .generate)
    (h : exec i s = .next t) : t.fatal = s.fatal := by
  cases exec_effect hc h <;> first | rfl | exact absurd rfl hg

theorem wrCmd_keeps_fatal {data : Word} {s t : State} (hd : data ≠ 0x10#32) (h : exec (.wrCmd data) s = .next t) :
    t.fatal = s.fatal :=
  exec_keeps_fatal (decodeCommand_ne_wrCmd data) (fun hg => hd (eq_of_decodeCommand_generate hg))
    ((execWrCmd_eq_exec data s).symm.trans h)

/-- The dispatch of R126 on the whole word. -/
theorem exec_wrCmd_of_running (data : Word) {s : State} (hf : s.fatal = false) :
    exec (.wrCmd data) s =
      if 256 ≤ data.toNat then .next (failedWith s 13#8)
      else if data = 0x01#32 then exec .fbSetup s
      else if data = 0x02#32 then exec .fbWrite s
      else if data = 0x03#32 then exec .fbRead s
      else if data = 0x04#32 then exec .fbFill s
      else if data = 0x10#32 then exec .generate s
      else .next (failedWith s 13#8) := by
  refine (unlessHalted_of_running hf _).trans ?_
  by_cases hbig : 256 ≤ data.toNat
  · have hhigh : cmdHigh data ≠ 0#24 := fun h => absurd ((cmdHigh_eq_zero_iff data).mp h) (by omega)
    rw [if_pos hbig, if_pos hhigh]
    rfl
  · have hsmall : data.toNat < 256 := by omega
    simp only [(cmdHigh_eq_zero_iff data).mpr hsmall, cmdOpc_eq_iff hsmall, hbig, ne_eq, not_true_eq_false, if_false]
    rfl

/-- Settles O22. -/
theorem commandWriteDispatches : Obligations.CommandWriteDispatches :=
  ⟨fun _ => rfl, fun _ _ _ h => ⟨fun hd => wrCmd_keeps_fatal hd h, rfl⟩,
    fun data _ hf => exec_wrCmd_of_running data hf⟩

end Sys2Proof.Machine
end

section
/-! The storage writes and the setters: O16 to O19 and the setters of O20. -/

namespace Sys2Proof.Machine

/-! ## The fields of ARG0 and ARG1, and what the commands that use them refuse -/

theorem argLow_lt_iff (w : Word) (b : BitVec 16) : argLow w < b ↔ w.toNat % 65536 < b.toNat := by
  simp [argLow, BitVec.lt_def]

theorem argHigh_lt_iff (w : Word) (b : BitVec 16) : argHigh w < b ↔ w.toNat / 65536 < b.toNat := by
  have := w.isLt
  simp only [argHigh, BitVec.lt_def, BitVec.extractLsb'_toNat, Nat.shiftRight_eq_div_pow]
  rw [Nat.mod_eq_of_lt (by omega)]

theorem exec_fbFill_of_invalid {s : State} (hf : s.fatal = false) (hv : validPixel s.fbMode s.arg1 = false) :
    exec .fbFill s = .next (raise .rangeError s) :=
  (unlessHalted_of_running hf _).trans (if_pos (by simp [hv]))

theorem exec_fbWrite_of_invalid {s : State} (hf : s.fatal = false) (hx : argLow s.arg0 < s.fbWidth)
    (hy : argHigh s.arg0 < s.fbHeight) (hv : validPixel s.fbMode s.arg1 = false) :
    exec .fbWrite s = .next (raise .rangeError s) := by
  have hin : ¬ (argLow s.arg0 ≥ s.fbWidth ∨ argHigh s.arg0 ≥ s.fbHeight) := by
    rintro (h | h)
    · exact absurd hx (BitVec.not_lt.mpr h)
    · exact absurd hy (BitVec.not_lt.mpr h)
  exact (unlessHalted_of_running hf _).trans ((if_neg hin).trans (if_pos (by simp [hv])))

/-- Settles O16. -/
theorem storageWritesStoreOnly : Obligations.StorageWritesStoreOnly := by
  refine ⟨fun _ => rfl, fun _ => rfl, fun data s hf => ?_, fun data s hf => ?_, fun data s t hf h hv => ?_⟩
  · exact ⟨unlessHalted_of_running hf _, unlessHalted_of_running hf _⟩
  · exact ⟨exec_of_halted hf rfl, exec_of_halted hf rfl⟩
  · have ht : t = storeDone { s with arg1 := data } := by
      have hstore : exec (.wrArg1 data) s = .next (storeDone { s with arg1 := data }) :=
        unlessHalted_of_running hf _
      rw [hstore] at h
      cases h
      rfl
    subst ht
    exact ⟨exec_fbFill_of_invalid hf hv, fun hx hy =>
      exec_fbWrite_of_invalid hf ((argLow_lt_iff _ _).mpr hx) ((argHigh_lt_iff _ _).mpr hy) hv⟩

/-! ## The setters on a running core (40_config.md R117 to R123) -/

/-- A setter that refuses exactly what is not acceptable takes exactly what is. -/
theorem setter_of_running {s : State} (hf : s.fatal = false) {refuse accept : Prop} [Decidable refuse]
    [Decidable accept] (h : refuse ↔ ¬ accept) (failed done : StepResult) :
    unlessHalted s (if refuse then failed else done) = if accept then done else failed := by
  rw [unlessHalted_of_running hf, if_congr h rfl rfl, ite_not]

/-- A setter that answers OKAY has taken its word. -/
theorem setter_took {accept : Prop} [Decidable accept] {s t u : State} {code : BitVec 8}
    (h : (if accept then Host.Outcome.next u else .next (failedWith s code) : StepResult) = .next t)
    (hok : lastResponse t = some writeOkay) : t = u := by
  split at h
  · cases h
    rfl
  · cases h
    rw [lastResponse_failedWith] at hok
    exact absurd (Option.some.inj hok) writeError_ne_writeOkay

theorem exec_wrCfgWidth (data : Word) {s : State} (hf : s.fatal = false) :
    exec (.wrCfgWidth data) s =
      if 1 ≤ data.toInt ∧ data.toInt ≤ s.params.maxWidth then .next (complete { s with cfgWidth := data })
      else .next (failedWith s 3#8) :=
  setter_of_running hf (by simp only [sint32]; omega) _ _

theorem exec_wrCfgHeight (data : Word) {s : State} (hf : s.fatal = false) :
    exec (.wrCfgHeight data) s =
      if 1 ≤ data.toInt ∧ data.toInt ≤ s.params.maxHeight then .next (complete { s with cfgHeight := data })
      else .next (failedWith s 3#8) :=
  setter_of_running hf (by simp only [sint32]; omega) _ _

/-- A bit for no colour mode is one above bit 4 (40_config.md R119). -/
theorem modesHigh_eq_zero_iff (data : Word) : data.extractLsb' 5 27 = 0#27 ↔ data.toNat < 32 := by
  have := data.isLt
  simp only [BitVec.toNat_eq, BitVec.extractLsb'_toNat, Nat.shiftRight_eq_div_pow]
  simp
  omega

theorem modesLow_eq_zero_iff {data : Word} (h : data.toNat < 32) : data.extractLsb' 0 5 = 0#5 ↔ data.toNat = 0 := by
  simp only [BitVec.toNat_eq, BitVec.extractLsb'_toNat]
  simp
  omega

theorem exec_wrCfgModes (data : Word) {s : State} (hf : s.fatal = false) :
    exec (.wrCfgModes data) s =
      if 32 ≤ data.toNat then .next (failedWith s 2#8)
      else if data.toNat = 0 then .next (failedWith s 3#8)
      else .next (complete { s with cfgModes := data }) := by
  refine (unlessHalted_of_running hf _).trans ?_
  refine if_ctx_congr (by rw [ne_eq, modesHigh_eq_zero_iff]; omega) (fun _ => rfl) fun hsmall => ?_
  exact if_congr (modesLow_eq_zero_iff (by omega)) rfl rfl

theorem exec_wrCfgScan (data : Word) {s : State} (hf : s.fatal = false) :
    exec (.wrCfgScan data) s =
      if data.toNat ≤ 5 then .next (complete { s with cfgScan := data }) else .next (failedWith s 2#8) :=
  setter_of_running hf (by omega) _ _

theorem exec_wrCfgBitord (data : Word) {s : State} (hf : s.fatal = false) :
    exec (.wrCfgBitord data) s =
      if data.toNat ≤ 1 then .next (complete { s with cfgBitord := data }) else .next (failedWith s 2#8) :=
  setter_of_running hf (by omega) _ _

theorem exec_wrCfgRowOffset (data : Word) {s : State} (hf : s.fatal = false) :
    exec (.wrCfgRowOffset data) s =
      if 0 ≤ data.toInt then .next (complete { s with cfgRowOffset := data }) else .next (failedWith s 3#8) :=
  setter_of_running hf (by simp only [sint32]; omega) _ _

theorem exec_wrCfgColOffset (data : Word) {s : State} (hf : s.fatal = false) :
    exec (.wrCfgColOffset data) s =
      if 0 ≤ data.toInt then .next (complete { s with cfgColOffset := data }) else .next (failedWith s 3#8) :=
  setter_of_running hf (by simp only [sint32]; omega) _ _

/-! ## GENERATE where a setter's check was left to it (44_modulator.md R211) -/

theorem exec_generate_of_invalid {s : State} {e : ErrorCode} (hf : s.fatal = false)
    (he : validateGenerate s = some e) : exec .generate s = .next (failGenerate e s) := by
  refine (unlessHalted_of_running hf _).trans ?_
  rw [he]

/-- The resolution check compares the descriptor's fields with the configured words as numbers. -/
theorem resolution_matches {s : State} (hw : s.fbWidth.toNat = s.cfgWidth.toNat)
    (hh : s.fbHeight.toNat = s.cfgHeight.toNat) :
    ¬ (s.fbWidth.setWidth 32 ≠ s.cfgWidth ∨ s.fbHeight.setWidth 32 ≠ s.cfgHeight) := by
  have hwidth : s.fbWidth.setWidth 32 = s.cfgWidth := by bv_omega
  have hheight : s.fbHeight.setWidth 32 = s.cfgHeight := by bv_omega
  simp [hwidth, hheight]

theorem validateGenerate_unsupported {s : State} (hw : s.fbWidth.toNat = s.cfgWidth.toNat)
    (hh : s.fbHeight.toNat = s.cfgHeight.toNat) (hm : s.cfgModes.getLsbD s.fbMode.code = false) :
    validateGenerate s = some .unsupportedMode := by
  rw [validateGenerate, if_neg (resolution_matches hw hh), if_pos (by simp [modeSupported, hm])]

theorem validateGenerate_geometry {s : State} (hw : s.fbWidth.toNat = s.cfgWidth.toNat)
    (hh : s.fbHeight.toNat = s.cfgHeight.toNat) (hm : s.cfgModes.getLsbD s.fbMode.code = true)
    (hpage : s.cfgScan = 4#32 ∨ s.cfgScan = 5#32) (h8 : s.cfgHeight.toNat % 8 ≠ 0) :
    validateGenerate s = some .invalidGeometry := by
  have hisPage : isPage s.cfgScan = true := by simpa [isPage] using hpage
  rw [validateGenerate, if_neg (resolution_matches hw hh), if_neg (by simp [modeSupported, hm]),
    if_pos ⟨hisPage, h8⟩]

/-- Settles O17. -/
theorem dimensionSetters : Obligations.DimensionSetters := by
  refine ⟨fun _ => rfl, fun _ => rfl, fun data s hf => ⟨exec_wrCfgWidth data hf, exec_wrCfgHeight data hf⟩, ?_⟩
  intro data s t hf h hok hpage h8 hw hh hm
  have ht := setter_took ((exec_wrCfgHeight data hf).symm.trans h) hok
  have hrun : t.fatal = false := by rw [ht]; exact hf
  have hdata : t.cfgHeight = data := by rw [ht]; rfl
  rw [← hdata] at h8 hh
  exact exec_generate_of_invalid hrun (validateGenerate_geometry hw hh hm hpage h8)

/-- Settles O18. -/
theorem modesSetter : Obligations.ModesSetter := by
  refine ⟨fun _ => rfl, fun data s hf => exec_wrCfgModes data hf, fun data s t hf h hok hm hw hh => ?_⟩
  have ht : t = complete { s with cfgModes := data } := by
    rw [exec_wrCfgModes data hf] at h
    split at h
    · cases h
      simp [writeError_ne_writeOkay] at hok
    · exact setter_took ((ite_not ..).trans h) hok
  have hrun : t.fatal = false := by rw [ht]; exact hf
  have hdata : t.cfgModes = data := by rw [ht]; rfl
  rw [← hdata] at hm
  exact exec_generate_of_invalid hrun (validateGenerate_unsupported hw hh hm)

/-- Settles O19. -/
theorem scanAndBitOrderSetters : Obligations.ScanAndBitOrderSetters :=
  ⟨fun _ => rfl, fun _ => rfl, fun data _ hf => ⟨exec_wrCfgScan data hf, exec_wrCfgBitord data hf⟩⟩

end Sys2Proof.Machine
end

section
/-! The calibration offsets, which no instruction but their own reads and setters observes: O20. -/

namespace Sys2Proof.Machine

/-- A state with its two calibration offsets changed. -/
def mapOffsets (row col : Word → Word) (s : State) : State :=
  { s with cfgRowOffset := row s.cfgRowOffset, cfgColOffset := col s.cfgColOffset }

/-- An outcome with a function applied to its next state. -/
def mapNext (f : State → State) : StepResult → StepResult
  | .next s => .next (f s)
  | .fault r => .fault r
  | .refused r => .refused r

/-- A choice between two outcomes is mapped branch by branch. -/
theorem ite_eq_mapNext {f : State → State} {p : Prop} [Decidable p] {a b a' b' : StepResult}
    (ha : a' = mapNext f a) (hb : b' = mapNext f b) : (if p then a' else b') = mapNext f (if p then a else b) := by
  rw [ha, hb, apply_ite (mapNext f)]

section
variable (row col : Word → Word) (s : State)

@[simp] theorem mapOffsets_arg1 : (mapOffsets row col s).arg1 = s.arg1 := rfl
@[simp] theorem mapOffsets_cfgScan : (mapOffsets row col s).cfgScan = s.cfgScan := rfl
@[simp] theorem mapOffsets_cfgBitord : (mapOffsets row col s).cfgBitord = s.cfgBitord := rfl
@[simp] theorem mapOffsets_fbMode : (mapOffsets row col s).fbMode = s.fbMode := rfl
@[simp] theorem scanPix_mapOffsets (d : ScanOrder) : scanPix d (mapOffsets row col s) = scanPix d s := rfl
@[simp] theorem validateGenerate_mapOffsets : validateGenerate (mapOffsets row col s) = validateGenerate s := rfl

/-- A changed offset passes the gate of every write. -/
theorem unlessHalted_mapOffsets {run run' : StepResult} (h : run' = mapNext (mapOffsets row col) run) :
    unlessHalted (mapOffsets row col s) run' = mapNext (mapOffsets row col) (unlessHalted s run) := by
  cases hf : s.fatal with
  | true => rw [unlessHalted_of_fatal hf, unlessHalted_of_fatal (s := mapOffsets row col s) hf]; rfl
  | false => rw [unlessHalted_of_running hf, unlessHalted_of_running (s := mapOffsets row col s) hf, h]

/-- Only the offsets' own reads see them. -/
theorem regValue_mapOffsets {r : RegName} (hrow : r = .cfgRowOffset → row = id)
    (hcol : r = .cfgColOffset → col = id) :
    regValue r (mapOffsets row col s) = regValue r s := by
  cases r
  case cfgRowOffset => rw [hrow rfl]; rfl
  case cfgColOffset => rw [hcol rfl]; rfl
  all_goals rfl

theorem execFbSetup_mapOffsets :
    execFbSetup (mapOffsets row col s) = mapNext (mapOffsets row col) (execFbSetup s) := by
  refine unlessHalted_mapOffsets row col s ?_
  rw [mapOffsets_arg1]
  cases ColorMode.ofCode s.arg1 with
  | none => rfl
  | some m => exact ite_eq_mapNext rfl (ite_eq_mapNext rfl rfl)

theorem execFbWrite_mapOffsets :
    execFbWrite (mapOffsets row col s) = mapNext (mapOffsets row col) (execFbWrite s) :=
  unlessHalted_mapOffsets row col s (ite_eq_mapNext rfl (ite_eq_mapNext rfl rfl))

theorem execFbRead_mapOffsets :
    execFbRead (mapOffsets row col s) = mapNext (mapOffsets row col) (execFbRead s) :=
  unlessHalted_mapOffsets row col s (ite_eq_mapNext rfl rfl)

theorem execFbFill_mapOffsets :
    execFbFill (mapOffsets row col s) = mapNext (mapOffsets row col) (execFbFill s) :=
  unlessHalted_mapOffsets row col s (ite_eq_mapNext rfl rfl)

theorem modulate_mapOffsets : modulate (mapOffsets row col s) = mapNext (mapOffsets row col) (modulate s) := by
  simp only [modulate, mapOffsets_cfgScan, mapOffsets_cfgBitord, mapOffsets_fbMode, scanPix_mapOffsets]
  cases ScanOrder.ofCode s.cfgScan with
  | none => rfl
  | some d =>
    cases Coder.ofCode s.cfgBitord with
    | none => rfl
    | some c =>
      dsimp only
      cases emitFrame s.fbMode c (scanPix d s) <;> rfl

theorem execGenerate_mapOffsets :
    execGenerate (mapOffsets row col s) = mapNext (mapOffsets row col) (execGenerate s) := by
  refine unlessHalted_mapOffsets row col s ?_
  rw [validateGenerate_mapOffsets]
  cases validateGenerate s with
  | none => exact modulate_mapOffsets row col s
  | some e => rfl

/-- Whatever instruction does not own a changed offset does the same with it. -/
theorem exec_mapOffsets (i : Instr)
    (hrow : i = .rdCfgRowOffset ∨ setterOf i = some .cfgRowOffset → row = id)
    (hcol : i = .rdCfgColOffset ∨ setterOf i = some .cfgColOffset → col = id) :
    exec i (mapOffsets row col s) = mapNext (mapOffsets row col) (exec i s) := by
  cases hc : accessClass i with
  | read =>
    obtain ⟨r, rfl⟩ := exists_readInstr hc
    have hr : regValue r (mapOffsets row col s) = regValue r s :=
      regValue_mapOffsets row col s (fun hr => hrow (.inl (by rw [hr, readInstr])))
        (fun hr => hcol (.inl (by rw [hr, readInstr])))
    rw [exec_readInstr, exec_readInstr, readRegister, hr]
    rfl
  | refusedRead =>
    rw [exec_of_refusedRead hc, exec_of_refusedRead hc]
    rfl
  | refusedWrite =>
    rw [exec_of_refusedWrite hc, exec_of_refusedWrite hc]
    exact unlessHalted_mapOffsets row col s rfl
  | storageWrite =>
    cases i <;> first | (simp [accessClass] at hc; done) | exact unlessHalted_mapOffsets row col s rfl
  | operationWrite =>
    cases i <;> first | (simp [accessClass] at hc; done) | skip
    case wrCmd =>
      exact unlessHalted_mapOffsets row col s <| ite_eq_mapNext rfl <|
        ite_eq_mapNext (execFbSetup_mapOffsets row col s) <|
        ite_eq_mapNext (execFbWrite_mapOffsets row col s) <|
        ite_eq_mapNext (execFbRead_mapOffsets row col s) <|
        ite_eq_mapNext (execFbFill_mapOffsets row col s) <|
        ite_eq_mapNext (execGenerate_mapOffsets row col s) rfl
    case wrCfgModes => exact unlessHalted_mapOffsets row col s (ite_eq_mapNext rfl (ite_eq_mapNext rfl rfl))
    case wrCfgRowOffset =>
      obtain rfl := hrow (.inr rfl)
      exact unlessHalted_mapOffsets id col s (ite_eq_mapNext rfl rfl)
    case wrCfgColOffset =>
      obtain rfl := hcol (.inr rfl)
      exact unlessHalted_mapOffsets row id s (ite_eq_mapNext rfl rfl)
    case fbSetup => exact execFbSetup_mapOffsets row col s
    case fbWrite => exact execFbWrite_mapOffsets row col s
    case fbRead => exact execFbRead_mapOffsets row col s
    case fbFill => exact execFbFill_mapOffsets row col s
    case generate => exact execGenerate_mapOffsets row col s
    case illegalCommand => exact unlessHalted_mapOffsets row col s rfl
    case reservedCommand => exact unlessHalted_mapOffsets row col s rfl
    all_goals exact unlessHalted_mapOffsets row col s (ite_eq_mapNext rfl rfl)

end

/-- Settles O20: changing one offset is `mapOffsets` with the other left as it is. -/
theorem offsetSetters : Obligations.OffsetSetters := by
  refine ⟨fun _ => rfl, fun _ => rfl,
    fun data s hf => ⟨exec_wrCfgRowOffset data hf, exec_wrCfgColOffset data hf⟩, fun i s t v h => ⟨?_, ?_⟩⟩
  · intro hread hset
    have hmap := exec_mapOffsets (fun _ => v) id s i (fun hown => absurd hown (not_or.mpr ⟨hread, hset⟩))
      (fun _ => rfl)
    rw [h] at hmap
    exact hmap
  · intro hread hset
    have hmap := exec_mapOffsets id (fun _ => v) s i (fun _ => rfl)
      (fun hown => absurd hown (not_or.mpr ⟨hread, hset⟩))
    rw [h] at hmap
    exact hmap

end Sys2Proof.Machine
end

section
/-! FB_READ, and the pixel words with their channels: O27 and O60. -/

namespace Sys2Proof.Machine

/-! ## A command and the write to CMD that carries it (40_config.md R126) -/

/-- The two routes to a command have one meaning. -/
theorem exec_of_command {i c : Instr} {w : Word} (hw : decodeCommand w = c) (hi : i = c ∨ i = .wrCmd w) (s : State) :
    exec i s = exec c s := by
  obtain rfl | rfl := hi
  · rfl
  · rw [← hw]
    exact execWrCmd_eq_exec w s

/-! ## The coordinate in ARG0 (30_encoding.md R85) -/

@[simp] theorem argLow_toNat (w : Word) : (argLow w).toNat = w.toNat % 65536 := by
  simp [argLow]

@[simp] theorem argHigh_toNat (w : Word) : (argHigh w).toNat = w.toNat / 65536 := by
  have := w.isLt
  simp only [argHigh, BitVec.extractLsb'_toNat, Nat.shiftRight_eq_div_pow]
  exact Nat.mod_eq_of_lt (by omega)

/-- The bounds check that FB_READ shares with FB_WRITE refuses exactly the coordinates outside the descriptor. -/
theorem outOfBounds_iff (w : Word) (width height : BitVec 16) :
    (argLow w ≥ width ∨ argHigh w ≥ height) ↔ ¬ (w.toNat % 65536 < width.toNat ∧ w.toNat / 65536 < height.toNat) := by
  simp only [ge_iff_le, BitVec.le_def, argLow_toNat, argHigh_toNat]
  omega

/-- FB_READ on a running core (41_framebuffer.md R143): gated and checked as a setter is, with the coordinate in the
place of the data. -/
theorem exec_fbRead_of_running {s : State} (hf : s.fatal = false) :
    exec .fbRead s =
      if s.arg0.toNat % 65536 < s.fbWidth.toNat ∧ s.arg0.toNat / 65536 < s.fbHeight.toNat then
        .next (complete { s with rdata := fbRead s.fb s.fbMode (s.arg0.toNat % 65536) (s.arg0.toNat / 65536) })
      else .next (raise .outOfRange s) := by
  rw [← argLow_toNat, ← argHigh_toNat]
  exact setter_of_running hf (by simpa using outOfBounds_iff s.arg0 s.fbWidth s.fbHeight) _ _

/-- Settles O27. -/
theorem fbReadReturnsPixel : Obligations.FbReadReturnsPixel := by
  have hw : decodeCommand 0x00000003#32 = .fbRead := rfl
  exact ⟨hw, fun _ s hi hf => (exec_of_command hw hi s).trans (exec_fbRead_of_running hf)⟩

/-! ## The valid pixel words (41_framebuffer.md R145) -/

/-- The largest valid pixel word of a mode: all of its used bits set. -/
def maxPixel : ColorMode → Nat
  | .mono => 0x1
  | .gray8 => 0xFF
  | .rgb565 => 0xFFFF
  | .rgb888 => 0xFFFFFF
  | .rgba8888 => 0xFFFFFFFF

theorem validPixel_iff (m : ColorMode) (p : Word) : validPixel m p = true ↔ p.toNat ≤ maxPixel m := by
  cases m
  case rgba8888 => exact iff_of_true rfl (Nat.le_of_lt_succ p.isLt)
  all_goals exact decide_eq_true_iff

theorem validPixel_eq_false_iff (m : ColorMode) (p : Word) : validPixel m p = false ↔ maxPixel m < p.toNat := by
  rw [← Bool.not_eq_true, validPixel_iff, Nat.not_le]

/-! ## The channels of a pixel word (41_framebuffer.md R147) -/

/-- A field of a pixel word as an element of storage, which is at most 16 bits wide. -/
theorem extract_setWidth_toNat (p : Word) (start : Nat) {len : Nat} (h : len ≤ 16) :
    ((p.extractLsb' start len).setWidth 16).toNat = p.toNat / 2 ^ start % 2 ^ len := by
  rw [BitVec.toNat_setWidth_of_le h, BitVec.extractLsb'_toNat, Nat.shiftRight_eq_div_pow]

theorem chan_toNat (p : Word) :
    (chan .mono p).map BitVec.toNat = [p.toNat % 2] ∧
    (chan .gray8 p).map BitVec.toNat = [p.toNat % 256] ∧
    (chan .rgb565 p).map BitVec.toNat = [p.toNat % 65536] ∧
    (chan .rgb888 p).map BitVec.toNat = [p.toNat / 65536 % 256, p.toNat / 256 % 256, p.toNat % 256] ∧
    (chan .rgba8888 p).map BitVec.toNat =
      [p.toNat / 16777216, p.toNat / 65536 % 256, p.toNat / 256 % 256, p.toNat % 256] := by
  have htop : p.toNat / 16777216 % 256 = p.toNat / 16777216 := Nat.mod_eq_of_lt (by have := p.isLt; omega)
  refine ⟨?_, ?_, ?_, ?_, ?_⟩
  case refine_3 => simp [chan]
  all_goals simp (disch := decide) only [chan, List.map_cons, List.map_nil, extract_setWidth_toNat, Nat.reducePow,
    Nat.div_one, htop]

/-- Settles O60: each range is `validPixel_iff` at its mode, and a word above it meets the refusals of FB_FILL and
FB_WRITE. -/
theorem pixelRangesAndChannels : Obligations.PixelRangesAndChannels := by
  refine ⟨fun p => ⟨validPixel_iff .mono p, validPixel_iff .gray8 p, validPixel_iff .rgb565 p,
    validPixel_iff .rgb888 p, rfl⟩, fun _ => rfl, chan_toNat, fun s hf hbig => ?_⟩
  have hv : validPixel s.fbMode s.arg1 = false := (validPixel_eq_false_iff s.fbMode s.arg1).mpr hbig
  exact ⟨exec_fbFill_of_invalid hf hv, fun hx hy =>
    exec_fbWrite_of_invalid hf ((argLow_lt_iff _ _).mpr hx) ((argHigh_lt_iff _ _).mpr hy) hv⟩

end Sys2Proof.Machine
end

section
/-! The scan orders: their loops against their closed forms, and what a scan sequence lists (O31 and O33). -/

namespace Sys2Proof.Machine

/-! ## Two nested loops as one loop over the positions (42_scan_order.md R172 to R177) -/

/-- A loop of `m` rounds, each of `n` values: position `k` holds value `k % n` of round `k / n`. -/
theorem flatMap_range_map_range {α : Type} (m n : Nat) (f : Nat → Nat → α) :
    ((List.range m).flatMap fun i => (List.range n).map (f i)) =
      (List.range (m * n)).map fun k => f (k / n) (k % n) := by
  induction m with
  | zero => simp
  | succ m ih =>
    have hround : (List.range n).map (f m) =
        (List.range n).map fun j => f ((m * n + j) / n) ((m * n + j) % n) := by
      refine List.map_congr_left fun j hj => ?_
      have hlt : j < n := List.mem_range.mp hj
      rw [Nat.mul_comm m n, Nat.mul_add_div (Nat.zero_lt_of_lt hlt), Nat.div_eq_of_lt hlt, Nat.mul_add_mod,
        Nat.mod_eq_of_lt hlt, Nat.add_zero]
    rw [List.range_succ, List.flatMap_append, ih, List.flatMap_singleton, hround, Nat.succ_mul, List.range_add,
      List.map_append, List.map_map]
    rfl

/-- A descending loop is the ascending one with its counter mirrored. -/
theorem reverse_range_map {α : Type} (n : Nat) (f : Nat → α) :
    (List.range n).reverse.map f = (List.range n).map fun j => f (n - 1 - j) := by
  rw [List.range_eq_range', List.reverse_range', List.map_map, ← List.range_eq_range']
  simp [Function.comp_def]

/-! ## The scan sequence (42_scan_order.md R170) -/

/-- On a geometry of whole pages, the rounds of the page loop hold all the positions. -/
theorem pages_mul_pageSize {w h : Nat} (h8 : h % 8 = 0) : h / 8 * (w * 8) = w * h := by
  rw [Nat.mul_left_comm, Nat.div_mul_cancel (Nat.dvd_of_mod_eq_zero h8)]

/-- The nested loops of each order list its closed form over the positions. -/
theorem scanSeq_eq_map_scanCoord (d : ScanOrder) (w h : Nat) (hpage : d.isPageBased = true → h % 8 = 0) :
    scanSeq d w h = (List.range (w * h)).map (scanCoord d w h) := by
  cases d with
  | rowMajor | rowMajorReversed =>
    simp only [scanSeq, reverse_range_map, flatMap_range_map_range, Nat.mul_comm h w]
    rfl
  | columnMajor | columnMajorReversed =>
    simp only [scanSeq, reverse_range_map, flatMap_range_map_range]
    rfl
  | pageColumn =>
    simp only [scanSeq, flatMap_range_map_range, pages_mul_pageSize (hpage rfl)]
    refine List.map_congr_left fun k _ => ?_
    simp only [scanCoord, Nat.mul_comm 8]
  | pageColumnReversed =>
    simp only [scanSeq, reverse_range_map, flatMap_range_map_range, pages_mul_pageSize (hpage rfl)]
    refine List.map_congr_left fun k _ => ?_
    have hrow : k % (w * 8) % 8 ≤ 7 := Nat.le_of_lt_succ (Nat.mod_lt _ (by decide))
    rw [scanCoord, Nat.mul_comm 8 w, Nat.mul_comm 8, Nat.add_sub_assoc hrow (k / (w * 8) * 8)]

theorem length_scanSeq (d : ScanOrder) (w h : Nat) (hpage : d.isPageBased = true → h % 8 = 0) :
    (scanSeq d w h).length = w * h := by
  rw [scanSeq_eq_map_scanCoord d w h hpage, List.length_map, List.length_range]

/-- The rows of the pages are the rows of the rectangle. -/
theorem exists_page_row_iff {w h x y : Nat} (h8 : h % 8 = 0) :
    (∃ page < h / 8, x < w ∧ ∃ yo < 8, page * 8 + yo = y) ↔ x < w ∧ y < h := by
  constructor
  · rintro ⟨page, hp, hx, yo, hyo, rfl⟩
    exact ⟨hx, by omega⟩
  · rintro ⟨hx, hy⟩
    exact ⟨y / 8, by omega, hx, y % 8, by omega, by omega⟩

theorem mem_scanSeq (d : ScanOrder) (w h : Nat) (hpage : d.isPageBased = true → h % 8 = 0) (x y : Nat) :
    (x, y) ∈ scanSeq d w h ↔ x < w ∧ y < h := by
  cases d with
  | rowMajor | rowMajorReversed => simp [scanSeq, and_comm]
  | columnMajor | columnMajorReversed => simp [scanSeq]
  | pageColumn | pageColumnReversed =>
    simpa [scanSeq] using exists_page_row_iff (hpage rfl)

/-- As many entries as the rectangle has coordinates, and every coordinate among them: so none stands twice. -/
theorem nodup_scanSeq (d : ScanOrder) (w h : Nat) (hpage : d.isPageBased = true → h % 8 = 0) :
    (scanSeq d w h).Nodup := by
  have hrect : (scanSeq d w h).toFinset = Finset.range w ×ˢ Finset.range h := by
    ext ⟨x, y⟩
    simp [mem_scanSeq d w h hpage]
  have hcard : (scanSeq d w h).toFinset.card = (scanSeq d w h).length := by
    rw [hrect, Finset.card_product, Finset.card_range, Finset.card_range, length_scanSeq d w h hpage]
  exact Multiset.toFinset_card_eq_card_iff_nodup.mp hcard

/-- Settles O31. -/
theorem scanLoopsHaveClosedForm : Obligations.ScanLoopsHaveClosedForm := by
  refine ⟨fun d w h k hpage hk => ?_, fun _ _ _ => ⟨rfl, rfl, rfl, rfl, rfl, rfl⟩⟩
  rw [scanSeq_eq_map_scanCoord d w h hpage, List.getElem?_map, List.getElem?_range hk]
  rfl

/-- Settles O33. -/
theorem scanSequenceListsEachCoordinateOnce : Obligations.ScanSequenceListsEachCoordinateOnce :=
  fun d w h hpage => ⟨length_scanSeq d w h hpage, nodup_scanSeq d w h hpage, mem_scanSeq d w h hpage⟩

end Sys2Proof.Machine
end

section
/-! The bit coders: where each bit of a group lands (O35 to O38), and GENERATE on a mono panel that reads whole pages
(O49). -/

namespace Sys2Proof.Machine

/-! ## The byte of eight bits -/

/-- The place in the byte of the i-th bit of a group (43_bit_coder.md R191, R192). Each coder's map of the places is
its own inverse. -/
def bitPlace : Coder → Nat → Nat
  | .msb, i => 7 - i
  | .lsb, i => i

/-- The byte a coder makes of the bits `bit 0`, …, `bit 7`. -/
def byteOfBits (c : Coder) (bit : Nat → Bool) : Byte := BitVec.ofFnLE fun place : Fin 8 => bit (bitPlace c place)

theorem bitPlace_lt (c : Coder) {i : Nat} (h : i < 8) : bitPlace c i < 8 := by
  cases c with
  | msb => exact Nat.lt_succ_of_le (Nat.sub_le 7 i)
  | lsb => exact h

theorem bitPlace_bitPlace (c : Coder) {i : Nat} (h : i < 8) : bitPlace c (bitPlace c i) = i := by
  cases c with
  | msb => exact Nat.sub_sub_self (Nat.le_of_lt_succ h)
  | lsb => rfl

theorem getLsbD_byteOfBits (c : Coder) (bit : Nat → Bool) {i : Nat} (h : i < 8) :
    (byteOfBits c bit).getLsbD (bitPlace c i) = bit i := by
  simp [byteOfBits, bitPlace_lt c h, bitPlace_bitPlace c h]

theorem byteOfBits_lsb_getLsbD (b : Byte) : byteOfBits .lsb b.getLsbD = b :=
  BitVec.eq_of_getLsbD_eq fun _ hi => getLsbD_byteOfBits .lsb b.getLsbD hi

/-- The two coders agree on groups that are each other's reverse. -/
theorem byteOfBits_lsb_eq_msb {f g : Nat → Bool} (h : ∀ i, i < 8 → f i = g (7 - i)) :
    byteOfBits .lsb f = byteOfBits .msb g :=
  congrArg BitVec.ofFnLE (funext fun place => h place place.isLt)

/-- The weighted sum of the bits of a byte, each at its place, is the byte. -/
theorem packBits_getLsbD (c : Coder) (v : Byte) :
    packBits c ((List.range 8).map fun i => (v.getLsbD (bitPlace c i)).toNat) = v.toNat := by
  have hv := v.isLt
  cases c <;>
  · simp only [packBits, bitPlace, BitVec.getLsbD, Nat.toNat_testBit, List.range, List.range.loop, List.map_cons,
      List.map_nil, List.zipIdx, List.sum_cons, List.sum_nil, Nat.shiftLeft_eq, Nat.reduceAdd, Nat.reduceSub,
      Nat.reducePow]
    omega

theorem packBits_eq_byteOfBits (c : Coder) (bit : Nat → Bool) :
    packBits c ((List.range 8).map fun i => (bit i).toNat) = (byteOfBits c bit).toNat := by
  rw [← packBits_getLsbD c]
  refine congrArg (packBits c) (List.map_congr_left fun i hi => ?_)
  rw [getLsbD_byteOfBits c bit (List.mem_range.mp hi)]

/-! ## The coder's functions -/

theorem encode8_bits (c : Coder) (bit : Nat → Bool) :
    encode8 c ((List.range 8).map fun i => (bit i).toNat) = .ok (byteOfBits c bit) := by
  have hbits : ¬ ((List.range 8).map fun i => (bit i).toNat).any (fun b => decide (1 < b)) = true := by
    simp [Bool.toNat_le]
  rw [encode8, if_neg (by simp), if_neg hbits, packBits_eq_byteOfBits, BitVec.ofNat_toNat, BitVec.setWidth_eq]

/-- Eight values 0 or 1 are eight bits. -/
theorem exists_bits {bits : List Nat} (hlen : bits.length = 8) (hbit : ∀ b ∈ bits, b ≤ 1) :
    ∃ bit : Nat → Bool, bits = (List.range 8).map (fun i => (bit i).toNat) ∧
      ∀ i, i < 8 → (bit i).toNat = bits.getD i 0 := by
  have htoNat : ∀ i, i < 8 → (bits.getD i 0 == 1).toNat = bits.getD i 0 := fun i hi => by
    have hle := hbit (bits.getD i 0) (by rw [List.getD_eq_getElem _ _ (hlen ▸ hi)]; exact List.getElem_mem _)
    interval_cases bits.getD i 0 <;> rfl
  refine ⟨fun i => bits.getD i 0 == 1, List.ext_getElem (by simp [hlen]) fun i hi _ => ?_, htoNat⟩
  rw [List.getElem_map, List.getElem_range, htoNat i (hlen ▸ hi), List.getD_eq_getElem _ _ hi]

theorem rev8_eq_byteOfBits (b : Byte) : rev8 b = byteOfBits .msb b.getLsbD := by
  have hsum : rev8 b = BitVec.ofNat 8 (packBits .msb ((List.range 8).map fun i => (b.getLsbD i).toNat)) := rfl
  rw [hsum, packBits_eq_byteOfBits, BitVec.ofNat_toNat, BitVec.setWidth_eq]

theorem getLsbD_rev8 (b : Byte) {i : Nat} (h : i < 8) : (rev8 b).getLsbD (7 - i) = b.getLsbD i := by
  rw [rev8_eq_byteOfBits]
  exact getLsbD_byteOfBits .msb b.getLsbD h

/-- The byte of a group under LSB is the reverse of its byte under MSB. -/
theorem rev8_byteOfBits_msb (bit : Nat → Bool) : rev8 (byteOfBits .msb bit) = byteOfBits .lsb bit := by
  rw [rev8_eq_byteOfBits]
  refine (byteOfBits_lsb_eq_msb fun i hi => ?_).symm
  exact (getLsbD_byteOfBits .msb bit hi).symm

theorem reencodeByte_eq_byteOfBits (c : Coder) (b : Byte) :
    reencodeByte c b = .ok (byteOfBits c fun i => b.getLsbD (7 - i)) := encode8_bits c _

theorem byteOfBits_msb_reversed (b : Byte) : (byteOfBits .msb fun i => b.getLsbD (7 - i)) = b := by
  rw [← byteOfBits_lsb_eq_msb (f := b.getLsbD), byteOfBits_lsb_getLsbD]
  exact fun i hi => by rw [Nat.sub_sub_self (Nat.le_of_lt_succ hi)]

theorem reencodeByte_msb (b : Byte) : reencodeByte .msb b = .ok b := by
  rw [reencodeByte_eq_byteOfBits, byteOfBits_msb_reversed]

theorem reencodeByte_lsb (b : Byte) : reencodeByte .lsb b = .ok (rev8 b) := by
  rw [reencodeByte_eq_byteOfBits, ← rev8_byteOfBits_msb, byteOfBits_msb_reversed]

theorem rev8_rev8 (b : Byte) : rev8 (rev8 b) = b := by
  rw [rev8_eq_byteOfBits b, rev8_byteOfBits_msb, byteOfBits_lsb_getLsbD]

/-- Settles O35. -/
theorem encodeEightPlacesEachBit : Obligations.EncodeEightPlacesEachBit := by
  intro bits hlen hbit
  obtain ⟨bit, hbits, hget⟩ := exists_bits hlen hbit
  have hplaces : ∀ c, ∃ v, encode8 c bits = .ok v ∧
      ∀ i, i < 8 → (v.getLsbD (bitPlace c i)).toNat = bits.getD i 0 := fun c => by
    refine ⟨byteOfBits c bit, by rw [hbits, encode8_bits], fun i hi => ?_⟩
    rw [getLsbD_byteOfBits c bit hi, hget i hi]
  exact ⟨hplaces .msb, hplaces .lsb⟩

/-- Settles O36. -/
theorem lsbIsReverseOfMsb : Obligations.LsbIsReverseOfMsb := by
  refine ⟨fun b _ hi => getLsbD_rev8 b hi, fun bits hlen hbit => ?_⟩
  obtain ⟨bit, rfl, -⟩ := exists_bits hlen hbit
  exact ⟨byteOfBits .msb bit, encode8_bits .msb bit, by rw [rev8_byteOfBits_msb, encode8_bits]⟩

/-- Settles O37. -/
theorem msbEncodeInvertsDecode : Obligations.MsbEncodeInvertsDecode :=
  fun b => ⟨reencodeByte_msb b, rev8_rev8 b⟩

/-- Settles O38. -/
theorem reencodeKeepsOrReverses : Obligations.ReencodeKeepsOrReverses :=
  fun b => ⟨reencodeByte_msb b, reencodeByte_lsb b⟩

/-! ## The mono emitter (44_modulator.md R214) -/

/-- Bit i of group j of the mono stream: bit 0 of pixel 8j + i, zero past the last pixel. -/
def groupBit (px : List Word) (j i : Nat) : Bool := (px.getD (8 * j + i) 0#32).getLsbD 0

theorem padTo8_group (px : List Word) (j : Nat) :
    padTo8 (((px.drop (8 * j)).take 8).map fun p => (p.getLsbD 0).toNat) =
      .ok ((List.range 8).map fun i => (groupBit px j i).toNat) := by
  have hlen : (((px.drop (8 * j)).take 8).map fun p => (p.getLsbD 0).toNat).length = min 8 (px.length - 8 * j) := by
    simp
  rw [padTo8, if_neg (by omega)]
  refine congrArg _ (List.ext_getElem (by simp) fun i _ hi => ?_)
  have hi8 : i < 8 := by simpa using hi
  rw [List.getElem_append, List.getElem_map, List.getElem_range, groupBit]
  split
  next hpixel =>
    have hin : 8 * j + i < px.length := by omega
    simp [hin]
  next hpad =>
    have hpast : ¬ 8 * j + i < px.length := by omega
    simp [hpast]

theorem emitMono_eq (c : Coder) (px : List Word) :
    emitMono c px = .ok ((List.range (ceil8 px.length)).map fun j => byteOfBits c (groupBit px j)) := by
  have hgroup : ∀ j, (do let g ← padTo8 (((px.drop (8 * j)).take 8).map fun p => (p.getLsbD 0).toNat); encode8 c g) =
      (pure (byteOfBits c (groupBit px j)) : Except Fault Byte) := fun j => by
    rw [padTo8_group]
    exact encode8_bits c (groupBit px j)
  simp only [emitMono, hgroup]
  exact List.mapM_pure

/-! ## GENERATE past its checks (44_modulator.md R211, R212, R219) -/

theorem isPageBased_of_isPage {w : Word} {d : ScanOrder} (hd : ScanOrder.ofCode w = some d) (hw : isPage w = true) :
    d.isPageBased = true := by
  have hcode : w = 4#32 ∨ w = 5#32 := by simpa [isPage] using hw
  rcases hcode with rfl | rfl <;> cases hd <;> rfl

theorem validateGenerate_of_ready {s : State} {d : ScanOrder} {c : Coder} (h : Ready s d c) :
    validateGenerate s = none := by
  have hpages : ¬ (isPage s.cfgScan = true ∧ s.cfgHeight.toNat % 8 ≠ 0) := fun ⟨hpage, h8⟩ =>
    h8 (h.pages (isPageBased_of_isPage h.scan hpage))
  rw [validateGenerate, if_neg (resolution_matches h.width h.height), if_neg (by simp [modeSupported, h.supported]),
    if_neg hpages]

/-- Under the conditions GENERATE commits the frame that its mode's emitter makes of the pixels in scan order. -/
theorem exec_generate_of_ready {s : State} {d : ScanOrder} {c : Coder} {frame : List Byte} (h : Ready s d c)
    (hframe : emitFrame s.fbMode c (scanPix d s) = .ok frame) : exec .generate s = .next (emitted s frame) := by
  have hmodulate : modulate s = .next (commitFrame frame s) := by
    simp only [modulate, h.scan, h.bitord, hframe]
  refine (unlessHalted_of_running h.running _).trans ?_
  rw [validateGenerate_of_ready h]
  exact hmodulate

theorem scanPix_eq_map_pixelAt {s : State} {d : ScanOrder} (hpage : d.isPageBased = true → s.cfgHeight.toNat % 8 = 0) :
    scanPix d s = (List.range (pixelCount s)).map (pixelAt s d) := by
  rw [scanPix, scanSeq_eq_map_scanCoord _ _ _ hpage, List.map_map]
  rfl

/-- The frame of a mono panel, byte by byte. -/
def monoFrame (s : State) (d : ScanOrder) (c : Coder) : List Byte :=
  (List.range (ceil8 (pixelCount s))).map fun j => byteOfBits c (groupBit (scanPix d s) j)

theorem exec_generate_mono {s : State} {d : ScanOrder} {c : Coder} (h : Ready s d c) (hm : s.fbMode = .mono) :
    exec .generate s = .next (emitted s (monoFrame s d c)) := by
  have hlen : (scanPix d s).length = pixelCount s := by rw [scanPix_eq_map_pixelAt h.pages]; simp
  refine exec_generate_of_ready h ?_
  rw [hm, monoFrame, ← hlen]
  exact emitMono_eq c (scanPix d s)

/-! ## The groups of a page (42_scan_order.md R180) -/

theorem div_mod_of_group (w j : Nat) {i : Nat} (hi : i < 8) :
    (8 * j + i) / (8 * w) = j / w ∧ (8 * j + i) % (8 * w) = 8 * (j % w) + i := by
  have hdiv : (8 * j + i) / (8 * w) = j / w := by
    rw [← Nat.div_div_eq_div_mul, Nat.mul_add_div (by decide), Nat.div_eq_of_lt hi, Nat.add_zero]
  refine ⟨hdiv, ?_⟩
  have hsplit := Nat.div_add_mod (8 * j + i) (8 * w)
  have hj := Nat.div_add_mod j w
  rw [hdiv, Nat.mul_assoc] at hsplit
  omega

theorem scanCoord_pageColumn_group (w h j : Nat) {i : Nat} (hi : i < 8) :
    scanCoord .pageColumn w h (8 * j + i) = (j % w, 8 * (j / w) + i) := by
  obtain ⟨hdiv, hmod⟩ := div_mod_of_group w j hi
  simp only [scanCoord, hdiv, hmod, Prod.mk.injEq]
  omega

theorem scanCoord_pageColumnReversed_group (w h j : Nat) {i : Nat} (hi : i < 8) :
    scanCoord .pageColumnReversed w h (8 * j + i) = (j % w, 8 * (j / w) + (7 - i)) := by
  obtain ⟨hdiv, hmod⟩ := div_mod_of_group w j hi
  simp only [scanCoord, hdiv, hmod, Prod.mk.injEq]
  omega

/-- Group j of one page order is group j of the other read backwards. -/
theorem pixelAt_pageColumnReversed (s : State) (j : Nat) {i : Nat} (hi : i < 8) :
    pixelAt s .pageColumnReversed (8 * j + (7 - i)) = pixelAt s .pageColumn (8 * j + i) := by
  rw [pixelAt, pixelAt, scanCoord_pageColumn_group _ _ _ hi,
    scanCoord_pageColumnReversed_group _ _ _ (Nat.lt_succ_of_le (Nat.sub_le 7 i)),
    Nat.sub_sub_self (Nat.le_of_lt_succ hi)]

theorem groupBit_scanPix {s : State} {d : ScanOrder} (hpage : d.isPageBased = true → s.cfgHeight.toNat % 8 = 0)
    (j i : Nat) :
    groupBit (scanPix d s) j i =
      if 8 * j + i < pixelCount s then (pixelAt s d (8 * j + i)).getLsbD 0 else false := by
  rw [groupBit, scanPix_eq_map_pixelAt hpage]
  split <;> simp [*]

/-- The page orders with opposite coders make the same mono frame: every group is a whole column of eight. -/
theorem monoFrame_pageColumn_lsb {s : State} (h8 : s.cfgHeight.toNat % 8 = 0) :
    monoFrame s .pageColumn .lsb = monoFrame s .pageColumnReversed .msb := by
  have hwhole : pixelCount s % 8 = 0 := by rw [pixelCount, Nat.mul_mod, h8, Nat.mul_zero, Nat.zero_mod]
  refine List.map_congr_left fun j hj => byteOfBits_lsb_eq_msb fun i hi => ?_
  have hgroup : j < (pixelCount s + 7) / 8 := List.mem_range.mp hj
  rw [groupBit_scanPix (fun _ => h8), groupBit_scanPix (fun _ => h8), if_pos (by omega), if_pos (by omega),
    pixelAt_pageColumnReversed s j hi]

/-- Settles O49: the frames of the two settings are those of one state `s`, since `monoFrame` reads neither CFG_SCAN
nor CFG_BITORD but takes the strategies they name. -/
theorem pageLsbEqualsReversedPageMsb : Obligations.PageLsbEqualsReversedPageMsb := by
  intro s hm h
  have h' : Ready { s with cfgScan := 5#32, cfgBitord := 0#32 } .pageColumnReversed .msb :=
    ⟨h.running, h.width, h.height, h.supported, h.pages, rfl, rfl⟩
  refine ⟨monoFrame s .pageColumn .lsb, exec_generate_mono h hm, ?_⟩
  have h8 : s.cfgHeight.toNat % 8 = 0 := h.pages rfl
  rw [monoFrame_pageColumn_lsb h8]
  exact exec_generate_mono h' hm

end Sys2Proof.Machine
end

section
/-! GENERATE's checks and its dependence on the framebuffer and five CFG registers alone: O40 and O48. -/

namespace Sys2Proof.Machine

/-! ## The first failed check (44_modulator.md R211) -/

theorem validateGenerate_mismatch {s : State}
    (h : s.fbWidth.toNat ≠ s.cfgWidth.toNat ∨ s.fbHeight.toNat ≠ s.cfgHeight.toNat) :
    validateGenerate s = some .resolutionMismatch := by
  have hwords : s.fbWidth.setWidth 32 ≠ s.cfgWidth ∨ s.fbHeight.setWidth 32 ≠ s.cfgHeight := by bv_omega
  rw [validateGenerate, if_pos hwords]

/-- Settles O40: each clause is the validation's answer when the checks before it pass. -/
theorem generateReportsFirstFailedCheck : Obligations.GenerateReportsFirstFailedCheck := by
  intro i s hi hf mismatch
  have hmatch : ¬ mismatch → s.fbWidth.toNat = s.cfgWidth.toNat ∧ s.fbHeight.toNat = s.cfgHeight.toNat :=
    fun h => (not_or.mp h).imp not_not.mp not_not.mp
  rw [exec_of_command (w := 0x10#32) rfl hi]
  refine ⟨fun h => ?_, fun h hmode => ?_, fun h hmode hpage h8 => ?_⟩
  · exact exec_generate_of_invalid hf (validateGenerate_mismatch h)
  · obtain ⟨hw, hh⟩ := hmatch h
    exact exec_generate_of_invalid hf (validateGenerate_unsupported hw hh hmode)
  · obtain ⟨hw, hh⟩ := hmatch h
    exact exec_generate_of_invalid hf (validateGenerate_geometry hw hh hmode hpage h8)

/-! ## GENERATE by its outcomes (44_modulator.md R212, R219) -/

theorem exec_generate_of_valid {s : State} (hf : s.fatal = false) (hv : validateGenerate s = none) :
    exec .generate s = modulate s := by
  refine (unlessHalted_of_running hf _).trans ?_
  rw [hv]

theorem modulate_of_unmapped {s : State}
    (h : ScanOrder.ofCode s.cfgScan = none ∨ Coder.ofCode s.cfgBitord = none) :
    modulate s = .next (fatalHalt s) := by
  unfold modulate
  split
  next => rfl
  next hd =>
    have hc : Coder.ofCode s.cfgBitord = none := h.resolve_left (by simp [hd])
    rw [hc]

theorem modulate_of_frame {s : State} {d : ScanOrder} {c : Coder} {frame : List Byte}
    (hd : ScanOrder.ofCode s.cfgScan = some d) (hc : Coder.ofCode s.cfgBitord = some c)
    (hframe : emitFrame s.fbMode c (scanPix d s) = .ok frame) : modulate s = .next (commitFrame frame s) := by
  simp only [modulate, hd, hc, hframe]

/-! ## What GENERATE reads (44_modulator.md R222) -/

/-- Two states with the same framebuffer and the same five CFG registers. -/
structure SameSource (s t : State) : Prop where
  fbWidth : s.fbWidth = t.fbWidth
  fbHeight : s.fbHeight = t.fbHeight
  fbMode : s.fbMode = t.fbMode
  fb : s.fb = t.fb
  cfgWidth : s.cfgWidth = t.cfgWidth
  cfgHeight : s.cfgHeight = t.cfgHeight
  cfgModes : s.cfgModes = t.cfgModes
  cfgScan : s.cfgScan = t.cfgScan
  cfgBitord : s.cfgBitord = t.cfgBitord

theorem SameSource.validateGenerate_eq {s t : State} (h : SameSource s t) :
    validateGenerate s = validateGenerate t := by
  simp only [validateGenerate, h.fbWidth, h.fbHeight, h.fbMode, h.cfgWidth, h.cfgHeight, h.cfgModes, h.cfgScan]

theorem SameSource.scanPix_eq {s t : State} (h : SameSource s t) (d : ScanOrder) : scanPix d s = scanPix d t := by
  simp only [scanPix, h.fbMode, h.fb, h.cfgWidth, h.cfgHeight]

/-- What GENERATE can do to a running state: fail a check, halt, or commit a frame. -/
inductive GenerateChange : (State → State) → Prop where
  | fail (e : ErrorCode) : GenerateChange (failGenerate e)
  | halt : GenerateChange fatalHalt
  | commit (frame : List Byte) : GenerateChange (commitFrame frame)

/-- What GENERATE does to one state it does to every running state with the same source. -/
theorem exec_generate_sameSource {s s' : State} (hf : s.fatal = false) (h : exec .generate s = .next s') :
    ∃ change, GenerateChange change ∧ s' = change s ∧
      ∀ t, SameSource s t → t.fatal = false → exec .generate t = .next (change t) := by
  rcases execGenerate_next h with ⟨hhalted, -⟩ | ⟨e, he, rfl⟩ | ⟨hv, hmod⟩
  · simp [hf] at hhalted
  · exact ⟨_, .fail e, rfl, fun t hst ht => exec_generate_of_invalid ht (hst.validateGenerate_eq ▸ he)⟩
  · have hrun : ∀ t, SameSource s t → t.fatal = false → exec .generate t = modulate t :=
      fun t hst ht => exec_generate_of_valid ht (hst.validateGenerate_eq ▸ hv)
    rcases modulate_next hmod with ⟨hunmapped, rfl⟩ | ⟨d, c, frame, hd, hc, hframe, rfl⟩
    · refine ⟨_, .halt, rfl, fun t hst ht => (hrun t hst ht).trans ?_⟩
      rw [hst.cfgScan, hst.cfgBitord] at hunmapped
      exact modulate_of_unmapped hunmapped
    · refine ⟨_, .commit frame, rfl, fun t hst ht => (hrun t hst ht).trans ?_⟩
      rw [hst.cfgScan] at hd
      rw [hst.cfgBitord] at hc
      rw [hst.fbMode, hst.scanPix_eq] at hframe
      exact modulate_of_frame hd hc hframe

/-- A change reports the same and appends the same frames whatever the rest of the state holds. -/
theorem GenerateChange.reports_same {change : State → State} (h : GenerateChange change) {s t : State}
    (hf : s.fatal = t.fatal) :
    lastResponse (change s) = lastResponse (change t) ∧ (change s).result = (change t).result ∧
    (change s).fatal = (change t).fatal ∧ (change s).outLen = (change t).outLen ∧
    ∃ new, (change s).out = s.out ++ new ∧ (change t).out = t.out ++ new := by
  cases h with
  | fail e => exact ⟨by simp [lastResponse], rfl, hf, rfl, [], by simp, by simp⟩
  | halt => exact ⟨by simp [lastResponse], rfl, rfl, rfl, [], by simp, by simp⟩
  | commit frame => exact ⟨by simp [lastResponse], rfl, hf, rfl, [frame], rfl, rfl⟩

/-- Settles O48: both states undergo one and the same change. -/
theorem frameDependsOnlyOnFramebufferAndConfig : Obligations.FrameDependsOnlyOnFramebufferAndConfig := by
  intro s t s' t' hs ht hfbWidth hfbHeight hfbMode hfb hcfgWidth hcfgHeight hcfgModes hcfgScan hcfgBitord hs' ht'
  have hst : SameSource s t :=
    ⟨hfbWidth, hfbHeight, hfbMode, hfb, hcfgWidth, hcfgHeight, hcfgModes, hcfgScan, hcfgBitord⟩
  obtain ⟨change, hchange, rfl, hsame⟩ := exec_generate_sameSource hs hs'
  rw [hsame t hst ht] at ht'
  cases ht'
  exact hchange.reports_same (hs.trans ht.symm)

end Sys2Proof.Machine
end

section
/-! The frames of the modes with whole bytes for each pixel: O44 to O47. -/

namespace Sys2Proof.Machine

/-! ## A frame made of equal groups of bytes -/

theorem length_flatMap_of_length {α β : Type} {f : α → List β} {n : Nat} (hf : ∀ a, (f a).length = n)
    (l : List α) : (l.flatMap f).length = n * l.length := by
  simp [List.length_flatMap, hf, Nat.mul_comm]

/-- Element i of group k, where every element of the list gives a group of n. -/
theorem getElem?_flatMap_of_length {α β : Type} {f : α → List β} {n : Nat} (hf : ∀ a, (f a).length = n)
    (l : List α) (k : Nat) {i : Nat} (hi : i < n) :
    (l.flatMap f)[n * k + i]? = l[k]?.bind fun a => (f a)[i]? := by
  induction l generalizing k with
  | nil => rfl
  | cons a l ih =>
    rw [List.flatMap_cons]
    cases k with
    | zero =>
      rw [Nat.mul_zero, Nat.zero_add, List.getElem?_append_left (hf a ▸ hi)]
      rfl
    | succ k =>
      have hpast : n * (k + 1) + i = (f a).length + (n * k + i) := by rw [hf, Nat.mul_succ]; omega
      rw [hpast, List.getElem?_append_right (Nat.le_add_right _ _), Nat.add_sub_cancel_left, ih]
      rfl

/-- GENERATE in a mode whose emitter sends n bytes for each pixel: byte i of pixel k stands at n * k + i. -/
theorem exec_generate_bytes {s : State} {d : ScanOrder} {c : Coder} {m : ColorMode} {n : Nat}
    {bytes : Word → List Byte} (h : Ready s d c) (hm : s.fbMode = m)
    (hemit : ∀ px, emitFrame m c px = .ok (px.flatMap bytes)) (hn : ∀ p, (bytes p).length = n) :
    ∃ frame, exec .generate s = .next (emitted s frame) ∧ frame.length = n * pixelCount s ∧
      ∀ k, k < pixelCount s → ∀ i, i < n → frame[n * k + i]? = (bytes (pixelAt s d k))[i]? := by
  have hpix := scanPix_eq_map_pixelAt h.pages
  refine ⟨(scanPix d s).flatMap bytes, exec_generate_of_ready h (by rw [hm, hemit]), ?_, fun k hk i hi => ?_⟩
  · simp [length_flatMap_of_length hn, hpix]
  · rw [getElem?_flatMap_of_length hn _ k hi, hpix, List.getElem?_map, List.getElem?_range hk]
    rfl

/-! ## The emitters byte by byte (44_modulator.md R215 to R218) -/

theorem emitFrame_gray8 (c : Coder) (px : List Word) :
    emitFrame .gray8 c px = .ok (px.flatMap fun p => [p.extractLsb' 0 8]) :=
  congrArg Except.ok List.map_eq_flatMap

theorem reencodeByte_eq_inBitOrder (c : Coder) (b : Byte) : reencodeByte c b = .ok (inBitOrder c b) := by
  cases c with
  | msb => exact reencodeByte_msb b
  | lsb => exact reencodeByte_lsb b

theorem emitChannels_eq (c : Coder) (channelBytes : Word → List Byte) (px : List Word) :
    emitChannels c channelBytes px = .ok (px.flatMap fun p => (channelBytes p).map (inBitOrder c)) := by
  have hcoder : reencodeByte c = fun b => (pure (inBitOrder c b) : Except Fault Byte) :=
    funext (reencodeByte_eq_inBitOrder c)
  rw [emitChannels, hcoder, List.mapM_pure, List.map_flatMap]
  rfl

/-- A gray8 pixel is one byte of storage (20_memory.md R63). -/
theorem pixelAt_gray8_le {s : State} (hm : s.fbMode = .gray8) (d : ScanOrder) (k : Nat) :
    (pixelAt s d k).toNat ≤ 0xFF := by
  rw [pixelAt, hm, fbRead, BitVec.toNat_setWidth_of_le (by decide)]
  exact Nat.le_of_lt_succ (BitVec.isLt _)

/-- Settles O44. -/
theorem grayFrameBytes : Obligations.GrayFrameBytes := by
  intro s d c h hm
  obtain ⟨frame, hexec, hlen, hbyte⟩ := exec_generate_bytes (n := 1) h hm (emitFrame_gray8 c) fun _ => rfl
  refine ⟨frame, hexec, hlen.trans (Nat.one_mul _), fun k hk => ⟨?_, pixelAt_gray8_le hm d k⟩⟩
  have hk0 := hbyte k hk 0 (by decide)
  rwa [Nat.one_mul] at hk0

/-- Settles O45: the emitter never consults the coder. -/
theorem rgb565FrameBytes : Obligations.Rgb565FrameBytes := by
  intro s d c h hm
  obtain ⟨frame, hexec, hlen, hbyte⟩ := exec_generate_bytes (n := 2) h hm (fun _ => rfl) fun _ => rfl
  exact ⟨frame, hexec, hlen, fun k hk => ⟨hbyte k hk 0 (by decide), hbyte k hk 1 (by decide)⟩⟩

/-- Settles O46. -/
theorem rgb888FrameBytes : Obligations.Rgb888FrameBytes := by
  intro s d c h hm
  obtain ⟨frame, hexec, hlen, hbyte⟩ := exec_generate_bytes (n := 3) h hm (emitChannels_eq c _) fun _ => rfl
  exact ⟨frame, hexec, hlen, fun k hk =>
    ⟨hbyte k hk 0 (by decide), hbyte k hk 1 (by decide), hbyte k hk 2 (by decide)⟩⟩

/-- Settles O47. -/
theorem rgba8888FrameBytes : Obligations.Rgba8888FrameBytes := by
  intro s d c h hm
  obtain ⟨frame, hexec, hlen, hbyte⟩ := exec_generate_bytes (n := 4) h hm (emitChannels_eq c _) fun _ => rfl
  exact ⟨frame, hexec, hlen, fun k hk =>
    ⟨hbyte k hk 0 (by decide), hbyte k hk 1 (by decide), hbyte k hk 2 (by decide), hbyte k hk 3 (by decide)⟩⟩

end Sys2Proof.Machine
end

section
/-! The reset input against every other event: O10. -/

namespace Sys2Proof.Machine

/-- Everything an access can do, WR CMD included: what its command can do (40_config.md R126). -/
theorem exec_effect_commandOf {i : Instr} {s t : State} (h : exec i s = .next t) : Effect (commandOf i) s t := by
  cases i
  case wrCmd data => exact exec_effect (decodeCommand_ne_wrCmd data) ((execWrCmd_eq_exec data s).symm.trans h)
  all_goals exact exec_effect (fun _ => Instr.noConfusion) h

/-- No access shrinks the descriptor to 0 x 0: FB_SETUP's range check admits no zero dimension (41_framebuffer.md
R141), and nothing else writes the descriptor. -/
theorem Effect.descriptor_kept_or_pos {i : Instr} {s t : State} (h : Effect i s t) :
    (t.fbWidth = s.fbWidth ∧ t.fbHeight = s.fbHeight) ∨ (1 ≤ t.fbWidth.toNat ∧ 1 ≤ t.fbHeight.toNat) := by
  cases h
  case setup m hm hdim hcap =>
    obtain ⟨hwidth, -, hheight, -⟩ := by simpa only [not_or] using hdim
    exact .inr ⟨Nat.le_of_not_lt hwidth, Nat.le_of_not_lt hheight⟩
  all_goals exact .inl ⟨rfl, rfl⟩

theorem exec_keeps_descriptor_nonempty {i : Instr} {s t : State} (h : exec i s = .next t)
    (hs : ¬ (s.fbWidth = 0#16 ∧ s.fbHeight = 0#16)) : ¬ (t.fbWidth = 0#16 ∧ t.fbHeight = 0#16) := by
  rcases (exec_effect_commandOf h).descriptor_kept_or_pos with ⟨hwidth, hheight⟩ | ⟨hwidth, -⟩
  · rwa [hwidth, hheight]
  · rintro ⟨hzero, -⟩
    simp [hzero] at hwidth

theorem step_of_reset {s : State} {rest : List Input} (h : s.inputs = .reset :: rest) :
    step s = .next (applyReset { s with inputs := rest }) := step_cons h

/-- Settles O10: the halt's part is O14's, and the descriptor's is what an access leaves of it. -/
theorem onlyResetClearsFatalAndDescriptor : Obligations.OnlyResetClearsFatalAndDescriptor := by
  intro s t h
  obtain ⟨-, -, only_reset_ends_halt⟩ := haltedCoreRefusesEveryWrite
  refine ⟨?_, fun hhalted hrun => only_reset_ends_halt s t hhalted h hrun, fun hs hwidth hheight => ?_⟩
  · rintro ⟨rest, hreset⟩
    rw [step_of_reset hreset] at h
    cases h
    exact ⟨rfl, rfl, rfl⟩
  · rcases step_next h with ⟨-, rfl⟩ | ⟨rest, hreset, -⟩ | ⟨a, rest, i, -, -, hexec⟩
    · exact absurd ⟨hwidth, hheight⟩ hs
    · exact ⟨rest, hreset⟩
    · exact absurd ⟨hwidth, hheight⟩ (exec_keeps_descriptor_nonempty hexec hs)

end Sys2Proof.Machine
end

section
/-! The decoder against the encoder: O1 to O4. -/

namespace Sys2Proof

/-! ## The fields of an offset and of a command word (30_encoding.md R80, R83) -/

@[simp] theorem offLow_offOf (slot : BitVec 6) (low : BitVec 2) : offLow (offOf slot low) = low :=
  BitVec.extractLsb'_append_eq_right

@[simp] theorem offSlot_offOf (slot : BitVec 6) (low : BitVec 2) : offSlot (offOf slot low) = slot :=
  BitVec.extractLsb'_append_eq_left

theorem offOf_offSlot_offLow (off : Offset) : offOf (offSlot off) (offLow off) = off := by
  revert off; decide

@[simp] theorem cmdHigh_append (hi : BitVec 24) (opc : BitVec 8) : cmdHigh (hi ++ opc) = hi :=
  BitVec.extractLsb'_append_eq_left

@[simp] theorem cmdOpc_append (hi : BitVec 24) (opc : BitVec 8) : cmdOpc (hi ++ opc) = opc :=
  BitVec.extractLsb'_append_eq_right

theorem cmdHigh_append_cmdOpc (w : Word) : cmdHigh w ++ cmdOpc w = w := by
  ext i hi
  simp only [cmdHigh, cmdOpc, BitVec.getElem_append, BitVec.getElem_extractLsb', Nat.zero_add]
  split
  · exact BitVec.getLsbD_eq_getElem hi
  · rw [Nat.add_sub_cancel' (Nat.le_of_not_lt ‹_›), BitVec.getLsbD_eq_getElem hi]

/-! ## From an instruction to its encoded form and back -/

theorem decodeRead_misaligned (slot : BitVec 6) :
    decodeRead (offOf slot 1#2) = .ok (.rdMisaligned1 slot) ∧
    decodeRead (offOf slot 2#2) = .ok (.rdMisaligned2 slot) ∧
    decodeRead (offOf slot 3#2) = .ok (.rdMisaligned3 slot) := by
  simp [decodeRead]

theorem decodeWrite_misaligned (slot : BitVec 6) (data : Word) :
    decodeWrite (offOf slot 1#2) data = .ok (.wrMisaligned1 slot data) ∧
    decodeWrite (offOf slot 2#2) data = .ok (.wrMisaligned2 slot data) ∧
    decodeWrite (offOf slot 3#2) data = .ok (.wrMisaligned3 slot data) := by
  simp [decodeWrite]

theorem decodeCommand_illegal {hi : BitVec 24} (h : hi ≠ 0#24) (opc : BitVec 8) :
    decodeCommand (hi ++ opc) = .illegalCommand hi opc := by
  simp [decodeCommand, h]

theorem decodeCommand_reserved {opc : BitVec 8} (h : opc ∉ listedOpcodes) :
    decodeCommand (0#24 ++ opc) = .reservedCommand opc := by
  simp only [listedOpcodes, List.mem_cons, List.not_mem_nil, or_false, not_or] at h
  simp [decodeCommand, h]

/-- Settles O1: an access at an aligned offset is looked up by evaluation; a misaligned offset and a refused command
word give back the fields they were made of. -/
theorem decodeOfEncode : Obligations.DecodeOfEncode := by
  intro i hwf
  cases i
  case rdMisaligned1 slot => exact (decodeRead_misaligned slot).1
  case rdMisaligned2 slot => exact (decodeRead_misaligned slot).2.1
  case rdMisaligned3 slot => exact (decodeRead_misaligned slot).2.2
  case wrMisaligned1 slot data => exact (decodeWrite_misaligned slot data).1
  case wrMisaligned2 slot data => exact (decodeWrite_misaligned slot data).2.1
  case wrMisaligned3 slot data => exact (decodeWrite_misaligned slot data).2.2
  case illegalCommand hi opc =>
    exact congrArg _ (decodeCommand_illegal (by simpa [Instr.wellFormed] using hwf) opc)
  case reservedCommand opc =>
    exact congrArg _ (decodeCommand_reserved (by simpa [Instr.wellFormed] using hwf))
  all_goals rfl

/-! ## From an encoded form to its instruction and back -/

theorem readRows_encode : ∀ row ∈ registerReadRows ++ reservedReadRows,
    encode row.2 = .acc (.read row.1) ∧ row.2.wellFormed = true := by decide

theorem writeRows_encode (data : Word) : ∀ row ∈ registerWriteRows ++ reservedWriteRows,
    encode (row.2 data) = .acc (.write row.1 data) ∧ (row.2 data).wellFormed = true := by
  simp only [registerWriteRows, reservedWriteRows, List.cons_append, List.nil_append, List.forall_mem_cons,
    List.not_mem_nil, false_imp_iff, implies_true, and_true]
  and_intros <;> rfl

theorem encode_of_decodeRead {off : Offset} {i : Instr} (h : decodeRead off = .ok i) :
    encode i = .acc (.read off) ∧ i.wellFormed = true := by
  have hoff := offOf_offSlot_offLow off
  unfold decodeRead at h
  split at h
  case isTrue h1 => cases h; exact ⟨by rw [encode, ← h1, hoff], rfl⟩
  split at h
  case isTrue h2 => cases h; exact ⟨by rw [encode, ← h2, hoff], rfl⟩
  split at h
  case isTrue h3 => cases h; exact ⟨by rw [encode, ← h3, hoff], rfl⟩
  split at h
  · rename_i hrow
    cases h
    exact readRows_encode _ (Machine.mem_of_lookup hrow)
  · cases h

theorem encode_of_decodeWrite {off : Offset} {data : Word} {i : Instr} (h : decodeWrite off data = .ok i) :
    encode i = .acc (.write off data) ∧ i.wellFormed = true := by
  have hoff := offOf_offSlot_offLow off
  unfold decodeWrite at h
  split at h
  case isTrue h1 => cases h; exact ⟨by rw [encode, ← h1, hoff], rfl⟩
  split at h
  case isTrue h2 => cases h; exact ⟨by rw [encode, ← h2, hoff], rfl⟩
  split at h
  case isTrue h3 => cases h; exact ⟨by rw [encode, ← h3, hoff], rfl⟩
  split at h
  · rename_i f hrow
    cases h
    exact writeRows_encode data _ (Machine.mem_of_lookup hrow)
  · cases h

/-- A word without bits above 7 is its OPC behind zeros. -/
theorem zero_append_of_cmdOpc {w : Word} {opc : BitVec 8} (hhi : cmdHigh w = 0#24) (hopc : cmdOpc w = opc) :
    0#24 ++ opc = w := by
  rw [← hhi, ← hopc, cmdHigh_append_cmdOpc]

theorem encode_decodeCommand (w : Word) :
    encode (decodeCommand w) = .cmd w ∧ (decodeCommand w).wellFormed = true := by
  unfold decodeCommand
  split
  case isTrue hhi => exact ⟨congrArg _ (cmdHigh_append_cmdOpc w), by simpa [Instr.wellFormed] using hhi⟩
  rename_i hhi
  have hword : ∀ opc, cmdOpc w = opc → Encoding.cmd (0#24 ++ opc) = .cmd w :=
    fun opc hopc => congrArg _ (zero_append_of_cmdOpc (not_not.mp hhi) hopc)
  split
  case isTrue h => exact ⟨hword _ h, rfl⟩
  split
  case isTrue h => exact ⟨hword _ h, rfl⟩
  split
  case isTrue h => exact ⟨hword _ h, rfl⟩
  split
  case isTrue h => exact ⟨hword _ h, rfl⟩
  split
  case isTrue h => exact ⟨hword _ h, rfl⟩
  exact ⟨hword _ rfl, by simp [Instr.wellFormed, listedOpcodes, *]⟩

/-- Settles O2. -/
theorem encodeOfDecode : Obligations.EncodeOfDecode := by
  intro e i h
  cases e with
  | acc a =>
    cases a with
    | read off => exact encode_of_decodeRead h
    | write off data => exact encode_of_decodeWrite h
  | cmd w =>
    cases h
    exact encode_decodeCommand w

/-! ## Every encoded form has an instruction (30_encoding.md R91) -/

theorem offLow_cases (off : Offset) : offLow off = 1#2 ∨ offLow off = 2#2 ∨ offLow off = 3#2 ∨ offLow off = 0#2 := by
  generalize offLow off = low
  revert low; decide

/-- The rows of the aligned offsets leave no word slot out. -/
theorem rows_cover (slot : BitVec 6) :
    ((registerReadRows ++ reservedReadRows).lookup (offOf slot 0#2)).isSome = true ∧
    ((registerWriteRows ++ reservedWriteRows).lookup (offOf slot 0#2)).isSome = true := by
  revert slot; decide

theorem exists_decodeAccess (a : Access) : ∃ i, decodeAccess a = .ok i := by
  have hslot : ∀ off : Offset, ∃ slot, off = offOf slot (offLow off) :=
    fun off => ⟨offSlot off, (offOf_offSlot_offLow off).symm⟩
  cases a with
  | read off =>
    obtain ⟨slot, hoff⟩ := hslot off
    rcases offLow_cases off with hlow | hlow | hlow | hlow <;> rw [hoff, hlow]
    · exact ⟨_, (decodeRead_misaligned slot).1⟩
    · exact ⟨_, (decodeRead_misaligned slot).2.1⟩
    · exact ⟨_, (decodeRead_misaligned slot).2.2⟩
    · obtain ⟨i, hi⟩ := Option.isSome_iff_exists.mp (rows_cover slot).1
      exact ⟨i, by simp [decodeAccess, decodeRead, hi]⟩
  | write off data =>
    obtain ⟨slot, hoff⟩ := hslot off
    rcases offLow_cases off with hlow | hlow | hlow | hlow <;> rw [hoff, hlow]
    · exact ⟨_, (decodeWrite_misaligned slot data).1⟩
    · exact ⟨_, (decodeWrite_misaligned slot data).2.1⟩
    · exact ⟨_, (decodeWrite_misaligned slot data).2.2⟩
    · obtain ⟨f, hf⟩ := Option.isSome_iff_exists.mp (rows_cover slot).2
      exact ⟨f data, by simp [decodeAccess, decodeWrite, hf]⟩

/-- Settles O3. -/
theorem everyEncodingDecodes : Obligations.EveryEncodingDecodes := by
  intro e
  cases e with
  | acc a => exact exists_decodeAccess a
  | cmd w => exact ⟨decodeCommand w, rfl⟩

/-- Settles O4. -/
theorem sampleWordsDecode : Obligations.SampleWordsDecode :=
  ⟨rfl, rfl, rfl, rfl, rfl, rfl, rfl, rfl⟩

end Sys2Proof
end

section
/-! The code tables, the coder's misuse, reset, the reads and the refused command words: O6, O8, O9, O15, O23, O24,
O39, O52 and O59. -/

namespace Sys2Proof.Machine

/-! ## Codes (30_encoding.md R86, R87, R89) -/

theorem ColorMode.ofCode_eq_none {w : Word} (h : 4 < w.toNat) : ColorMode.ofCode w = none := by
  unfold ColorMode.ofCode
  repeat rw [if_neg (by bv_omega)]

theorem ScanOrder.ofCode_eq_none {w : Word} (h : 5 < w.toNat) : ScanOrder.ofCode w = none := by
  unfold ScanOrder.ofCode
  repeat rw [if_neg (by bv_omega)]

theorem Coder.ofCode_eq_none {w : Word} (h : 1 < w.toNat) : Coder.ofCode w = none := by
  unfold Coder.ofCode
  repeat rw [if_neg (by bv_omega)]

theorem ScanOrder.isPageBased_iff (d : ScanOrder) :
    d.isPageBased = true ↔ d = .pageColumn ∨ d = .pageColumnReversed := by
  cases d <;> decide

/-- Settles O59: the codes of the tables by evaluation, and the words above them by `ofCode_eq_none`. -/
theorem codesNameTheirModesAndStrategies : Obligations.CodesNameTheirModesAndStrategies :=
  ⟨⟨rfl, rfl, rfl, rfl, rfl⟩, ⟨rfl, rfl, rfl, rfl, rfl, fun _ => ColorMode.ofCode_eq_none⟩,
    ⟨rfl, rfl, rfl, rfl, rfl, rfl, fun _ => ScanOrder.ofCode_eq_none⟩, ScanOrder.isPageBased_iff,
    ⟨rfl, rfl, fun _ => Coder.ofCode_eq_none⟩⟩

/-! ## Misuse of the coder (43_bit_coder.md R193, R194) -/

theorem encode8_of_arity {bits : List Nat} (h : bits.length ≠ 8) (c : Coder) :
    encode8 c bits = .error .modelFaultArityError := if_pos h

theorem encode8_of_invalid {bits : List Nat} (hlen : bits.length = 8) (hbit : ∃ b ∈ bits, 1 < b) (c : Coder) :
    encode8 c bits = .error .modelFaultInvalidBitValue := by
  rw [encode8, if_neg (not_not.mpr hlen), if_pos (by simpa using hbit)]

theorem getD_append_zeros (l : List Nat) (n i : Nat) : (l ++ List.replicate n 0).getD i 0 = l.getD i 0 := by
  rw [List.getD_eq_getElem?_getD, List.getElem?_append]
  split
  · rw [List.getD_eq_getElem?_getD]
  next hpast => rw [List.getD_eq_default l 0 (Nat.le_of_not_lt hpast), List.getElem?_replicate]; split <;> rfl

/-- Settles O39. -/
theorem coderMisuseIsModelFault : Obligations.CoderMisuseIsModelFault := by
  refine fun c bits => ⟨fun h => encode8_of_arity h c, fun hlen hbit => encode8_of_invalid hlen hbit c,
    fun h => if_pos h, fun h => ⟨_, if_neg (Nat.not_lt.mpr h), ?_, getD_append_zeros bits _⟩⟩
  rw [List.length_append, List.length_replicate]
  exact Nat.add_sub_cancel' h

/-! ## Reset (70_reset_and_hazards.md R270, R271) -/

/-- Settles O8: the table's values are the reset state's by evaluation. -/
theorem resetHoldsSpecValues : Obligations.ResetHoldsSpecValues := by
  unfold Obligations.ResetHoldsSpecValues
  and_intros <;> rfl

/-- Settles O9. -/
theorem resetInputGivesResetState : Obligations.ResetInputGivesResetState :=
  fun _ _ h => step_of_reset h

theorem paramsInv_config : ParamsInv Config.params :=
  ⟨by decide, by decide, by decide, by decide, Nat.le_add_left 1 Config.fbMaxPixelsLessOne⟩

/-- The state after reset has the invariant whatever the parameters of the implementation. -/
theorem coreInv_resetWith {p : Params} (hp : ParamsInv p) : CoreInv (State.resetWith p) where
  params := hp
  cfg :=
    { width_pos := Nat.le_refl 1
      width_le := hp.width_pos
      height_pos := Nat.le_refl 1
      height_le := hp.height_pos
      modes_some := (by decide : (1#32).extractLsb' 0 5 ≠ 0#5)
      modes_only := (by decide : (1#32).extractLsb' 5 27 = 0#27)
      scan_le := Nat.zero_le 5
      bitord_le := Nat.zero_le 1
      row_lt := (by decide : (0#32).toNat < 2147483648)
      col_lt := (by decide : (0#32).toNat < 2147483648) }
  fbuf := ⟨.inl ⟨rfl, rfl⟩, reset_fb_wf, fun _ hc => absurd hc List.not_mem_nil,
    fun _ _ hc => absurd hc List.not_mem_nil⟩
  running := rfl
  code := Nat.zero_le 13
  frames := fun _ hf => absurd hf List.not_mem_nil

/-- Settles O52. -/
theorem resetHasInvariant : Obligations.ResetHasInvariant := coreInv_resetWith paramsInv_config

/-! ## The idle step, the reads and WR CMD -/

/-- Settles O6. -/
theorem stepWithoutInputIdles : Obligations.StepWithoutInputIdles := fun _ h => step_idle h

/-- No read sees the record of responses. -/
theorem regValue_respond (r : RegName) (resp : Response) (s : State) : regValue r (respond resp s) = regValue r s := by
  cases r <;> rfl

/-- Settles O15. -/
theorem readsChangeNothingAndRepeat : Obligations.ReadsChangeNothingAndRepeat := by
  intro i s h
  rcases accessClass_of_not_isWrite h with ⟨r, rfl⟩ | hc
  · refine ⟨_, exec_readInstr r s, (exec_readInstr r _).trans ?_⟩
    exact congrArg (fun v => Host.Outcome.next (readDone v _)) (regValue_respond r _ s)
  · exact ⟨_, exec_of_refusedRead hc s, exec_of_refusedRead hc _⟩

/-- Settles O23. -/
theorem commandWriteIsItsCommand : Obligations.CommandWriteIsItsCommand := execWrCmd_eq_exec

/-- Settles O24. -/
theorem refusedCommandWordsChangeOnlyResult : Obligations.RefusedCommandWordsChangeOnlyResult :=
  fun _ _ _ hf => ⟨unlessHalted_of_running hf _, unlessHalted_of_running hf _⟩

end Sys2Proof.Machine
end

section
/-! What every access and every step does to the port, STATUS and the stream, and that each completes: O5, O7, O50 and
O53 to O57. -/

namespace Sys2Proof.Machine

/-! ## The command an access runs (40_config.md R126) -/

theorem exec_commandOf (i : Instr) (s : State) : exec i s = exec (commandOf i) s := by
  cases i
  case wrCmd data => exact execWrCmd_eq_exec data s
  all_goals rfl

theorem commandOf_ne_wrCmd (i : Instr) (data : Word) : commandOf i ≠ .wrCmd data := by
  cases i
  case wrCmd w => exact decodeCommand_ne_wrCmd w data
  all_goals exact Instr.noConfusion

theorem accessClass_decodeCommand (w : Word) : accessClass (decodeCommand w) = .operationWrite := by
  unfold decodeCommand
  repeat' split
  all_goals rfl

theorem accessClass_commandOf (i : Instr) : accessClass (commandOf i) = accessClass i := by
  cases i
  case wrCmd w => exact accessClass_decodeCommand w
  all_goals rfl

theorem setterOf_decodeCommand (w : Word) : setterOf (decodeCommand w) = none := by
  unfold decodeCommand
  repeat' split
  all_goals rfl

theorem setterOf_commandOf (i : Instr) : setterOf (commandOf i) = setterOf i := by
  cases i
  case wrCmd w => exact setterOf_decodeCommand w
  all_goals rfl

/-- A storage write is no command's doing. -/
theorem eq_of_commandOf_eq {i j : Instr} (h : commandOf i = j) (hj : accessClass j ≠ .operationWrite) : i = j := by
  cases i
  case wrCmd w => exact absurd (h ▸ accessClass_decodeCommand w) hj
  all_goals exact h

/-! ## Every access completes (60_exceptions.md R249) -/

theorem proceeds_next (t : State) : Proceeds (.next t) := ⟨t, rfl⟩

theorem proceeds_ite {p : Prop} [Decidable p] {a b : StepResult} (ha : Proceeds a) (hb : Proceeds b) :
    Proceeds (if p then a else b) := by
  split
  · exact ha
  · exact hb

/-- No emitter faults: a group of pixels is padded to eight bits, and a byte has eight. -/
theorem emitFrame_proceeds (m : ColorMode) (c : Coder) (px : List Word) : ∃ frame, emitFrame m c px = .ok frame := by
  cases m with
  | mono => exact ⟨_, emitMono_eq c px⟩
  | gray8 => exact ⟨_, rfl⟩
  | rgb565 => exact ⟨_, rfl⟩
  | rgb888 => exact ⟨_, emitChannels_eq c _ px⟩
  | rgba8888 => exact ⟨_, emitChannels_eq c _ px⟩

theorem modulate_proceeds (s : State) : Proceeds (modulate s) := by
  cases hd : ScanOrder.ofCode s.cfgScan with
  | none => exact ⟨_, modulate_of_unmapped (.inl hd)⟩
  | some d =>
    cases hc : Coder.ofCode s.cfgBitord with
    | none => exact ⟨_, modulate_of_unmapped (.inr hc)⟩
    | some c =>
      obtain ⟨frame, hframe⟩ := emitFrame_proceeds s.fbMode c (scanPix d s)
      exact ⟨_, modulate_of_frame hd hc hframe⟩

theorem execGenerate_proceeds (s : State) : Proceeds (execGenerate s) := by
  refine unlessHalted_proceeds ?_
  cases validateGenerate s with
  | none => exact modulate_proceeds s
  | some e => exact proceeds_next _

theorem execFbSetup_proceeds (s : State) : Proceeds (execFbSetup s) := by
  refine unlessHalted_proceeds ?_
  cases ColorMode.ofCode s.arg1 with
  | none => exact proceeds_next _
  | some m => exact proceeds_ite (proceeds_next _) (proceeds_ite (proceeds_next _) (proceeds_next _))

theorem exec_proceeds_of_ne_wrCmd {i : Instr} (hi : ∀ data, i ≠ .wrCmd data) (s : State) : Proceeds (exec i s) := by
  cases hc : accessClass i with
  | read | refusedRead =>
    obtain ⟨r, hr⟩ := exec_of_not_isWrite (i := i) (by simp [isWrite, hc]) s
    exact ⟨_, hr⟩
  | refusedWrite =>
    rw [exec_of_refusedWrite hc]
    exact unlessHalted_proceeds (proceeds_next _)
  | storageWrite =>
    cases i <;> first | (simp [accessClass] at hc; done) | exact unlessHalted_proceeds (proceeds_next _)
  | operationWrite =>
    cases i <;> first | (simp [accessClass] at hc; done) | skip
    case wrCmd data => exact absurd rfl (hi data)
    case fbSetup => exact execFbSetup_proceeds s
    case generate => exact execGenerate_proceeds s
    case illegalCommand | reservedCommand => exact unlessHalted_proceeds (proceeds_next _)
    case wrCfgModes | fbWrite =>
      exact unlessHalted_proceeds (proceeds_ite (proceeds_next _) (proceeds_ite (proceeds_next _) (proceeds_next _)))
    all_goals exact unlessHalted_proceeds (proceeds_ite (proceeds_next _) (proceeds_next _))

theorem exec_proceeds (i : Instr) (s : State) : Proceeds (exec i s) := by
  rw [exec_commandOf]
  exact exec_proceeds_of_ne_wrCmd (commandOf_ne_wrCmd i) s

/-- The step of an access is the instruction it decodes to, there with the access taken from the port. -/
theorem step_of_access {s : State} {a : Access} {rest : List Input} {i : Instr} (h : s.inputs = .access a :: rest)
    (hi : decodeAccess a = .ok i) : step s = exec i { s with inputs := rest } :=
  (step_cons h).trans (performAccess_ok hi _)

theorem step_proceeds (s : State) : Proceeds (step s) := by
  cases h : s.inputs with
  | nil => exact ⟨s, step_idle h⟩
  | cons input rest =>
    cases input with
    | reset => exact ⟨_, step_of_reset h⟩
    | access a =>
      obtain ⟨i, hi⟩ := exists_decodeAccess a
      rw [step_of_access h hi]
      exact exec_proceeds i _

/-- Settles O50. -/
theorem everyAccessCompletes : Obligations.EveryAccessCompletes := ⟨exec_proceeds, step_proceeds⟩

/-- Settles O5: a command word is presented as the write to CMD that carries it. -/
theorem stepRunsDecodedInstruction : Obligations.StepRunsDecodedInstruction := by
  intro e i s rest hi hin
  cases e with
  | acc a => exact step_of_access hin hi
  | cmd w =>
    cases hi
    exact (step_of_access hin rfl).trans (execWrCmd_eq_exec w _)

/-! ## What an access leaves as it was (10_state.md R32 to R49) -/

section
variable {i : Instr} {s t : State}

theorem Effect.keeps_params (h : Effect i s t) : t.params = s.params := by cases h <;> rfl

theorem Effect.keeps_inputs (h : Effect i s t) : t.inputs = s.inputs := by cases h <;> rfl

theorem Effect.one_response (h : Effect i s t) : ∃ r, t.responses = s.responses ++ [r] := by
  cases h <;> exact ⟨_, rfl⟩

theorem Effect.keeps_arg0 (h : Effect i s t) (hi : ∀ d, i ≠ .wrArg0 d) : t.arg0 = s.arg0 := by
  cases h
  case arg0 d _ => exact absurd rfl (hi d)
  all_goals rfl

theorem Effect.keeps_arg1 (h : Effect i s t) (hi : ∀ d, i ≠ .wrArg1 d) : t.arg1 = s.arg1 := by
  cases h
  case arg1 d _ => exact absurd rfl (hi d)
  all_goals rfl

theorem Effect.keeps_rdata (h : Effect i s t) (hi : i ≠ .fbRead) : t.rdata = s.rdata := by
  cases h
  case read => exact absurd rfl hi
  all_goals rfl

theorem Effect.keeps_descriptor (h : Effect i s t) (hi : i ≠ .fbSetup) :
    t.fbWidth = s.fbWidth ∧ t.fbHeight = s.fbHeight ∧ t.fbMode = s.fbMode := by
  cases h
  case setup => exact absurd rfl hi
  all_goals exact ⟨rfl, rfl, rfl⟩

theorem Effect.keeps_fb (h : Effect i s t) (hsetup : i ≠ .fbSetup) (hwrite : i ≠ .fbWrite) (hfill : i ≠ .fbFill) :
    t.fb = s.fb := by
  cases h
  case setup => exact absurd rfl hsetup
  case write => exact absurd rfl hwrite
  case fill => exact absurd rfl hfill
  all_goals rfl

theorem Effect.keeps_generated (h : Effect i s t) (hi : i ≠ .generate) :
    t.outLen = s.outLen ∧ t.fatal = s.fatal ∧ t.out = s.out := by
  cases h
  case invalid | unmapped | frame => exact absurd rfl hi
  all_goals exact ⟨rfl, rfl, rfl⟩

/-- The CFG registers (30_encoding.md R82). -/
def cfgRegisters : List RegName :=
  [.cfgWidth, .cfgHeight, .cfgModes, .cfgScan, .cfgBitord, .cfgRowOffset, .cfgColOffset]

/-- A CFG register is written by its own setter alone. -/
theorem Effect.keeps_cfg (h : Effect i s t) {r : RegName} (hr : r ∈ cfgRegisters) (hi : setterOf i ≠ some r) :
    regValue r t = regValue r s := by
  simp only [cfgRegisters, List.mem_cons, List.not_mem_nil, or_false] at hr
  rcases hr with rfl | rfl | rfl | rfl | rfl | rfl | rfl
  all_goals cases h <;> first | rfl | exact absurd rfl hi

theorem Effect.keeps_result (h : Effect i s t)
    (hi : accessClass i = .read ∨ accessClass i = .refusedRead ∨ accessClass i = .storageWrite) :
    t.result = s.result := by
  cases h
  case answered | halted | arg0 | arg1 => rfl
  all_goals simp_all [accessClass]

end

/-- Settles O56: the owners are those of the command the access runs, and WR CMD adds none of its own. -/
theorem onlyOwnersWriteState : Obligations.OnlyOwnersWriteState := by
  intro i s t h
  have he := exec_effect_commandOf h
  rw [← accessClass_commandOf i, ← setterOf_commandOf i]
  have hstore : ∀ {j : Instr}, accessClass j ≠ .operationWrite → i ≠ j → commandOf i ≠ j :=
    fun hj hi hcommand => hi (eq_of_commandOf_eq hcommand hj)
  exact ⟨he.keeps_result, fun hi => he.keeps_arg0 fun d => hstore (j := .wrArg0 d) AccessClass.noConfusion (hi d),
    fun hi => he.keeps_arg1 fun d => hstore (j := .wrArg1 d) AccessClass.noConfusion (hi d),
    he.keeps_cfg (r := .cfgWidth) (by decide), he.keeps_cfg (r := .cfgHeight) (by decide),
    he.keeps_cfg (r := .cfgModes) (by decide), he.keeps_cfg (r := .cfgScan) (by decide),
    he.keeps_cfg (r := .cfgBitord) (by decide), he.keeps_cfg (r := .cfgRowOffset) (by decide),
    he.keeps_cfg (r := .cfgColOffset) (by decide), he.keeps_rdata, he.keeps_descriptor, he.keeps_fb,
    he.keeps_generated, he.keeps_params, he.keeps_inputs⟩

/-- Settles O7. -/
theorem eachAccessGetsOneResponse : Obligations.EachAccessGetsOneResponse := by
  intro s a rest hin
  obtain ⟨i, hi⟩ := exists_decodeAccess a
  obtain ⟨t, ht⟩ := exec_proceeds i { s with inputs := rest }
  have he := exec_effect_commandOf ht
  obtain ⟨r, hr⟩ := he.one_response
  exact ⟨t, r, (step_of_access hin hi).trans ht, he.keeps_inputs, hr⟩

/-! ## The stream (10_state.md R49) -/

theorem Effect.out_eq {i : Instr} {s t : State} (h : Effect i s t) :
    t.out = s.out ∨ (i = .generate ∧ ∃ frame, t.out = s.out ++ [frame]) := by
  cases h
  case frame => exact .inr ⟨rfl, _, rfl⟩
  all_goals exact .inl rfl

theorem exec_out {i : Instr} {s t : State} (h : exec i s = .next t) :
    ∃ new, t.out = s.out ++ new ∧ new.length ≤ 1 ∧ (new ≠ [] → commandOf i = .generate) := by
  rcases (exec_effect_commandOf h).out_eq with hsame | ⟨hgen, frame, hframe⟩
  · exact ⟨[], by simp [hsame], by simp, by simp⟩
  · exact ⟨[frame], hframe, by simp, fun _ => hgen⟩

/-- Settles O57. -/
theorem outputStreamIsAppendOnly : Obligations.OutputStreamIsAppendOnly := by
  refine ⟨fun i s t h => exec_out h, fun s t h hreset => ?_⟩
  rcases step_next h with ⟨-, rfl⟩ | ⟨rest, hin, -⟩ | ⟨a, rest, i, -, -, hexec⟩
  · exact ⟨[], by simp⟩
  · exact absurd hin (hreset rest)
  · obtain ⟨new, hnew, -⟩ := exec_out hexec
    exact ⟨new, hnew⟩

/-! ## STATUS (60_exceptions.md R240 to R247, R257) -/

theorem ErrorCode.code_le (e : ErrorCode) : e.code.toNat ≤ 13 := by cases e <;> decide

theorem code_of_validateGenerate {s : State} {e : ErrorCode} (h : validateGenerate s = some e) :
    e.code.toNat ∈ [6, 7, 8] := by
  unfold validateGenerate at h
  repeat' split at h
  all_goals cases h
  all_goals decide

/-- STATUS after an access: as before, or of a running core, or of one that has just halted. -/
theorem Effect.status_cases {i : Instr} {s t : State} (h : Effect i s t) :
    (t.fatal = s.fatal ∧ t.result = s.result) ∨ (t.fatal = false ∧ t.result.toNat ≤ 13) ∨
    (t.fatal = true ∧ t.result = ErrorCode.unmappedStrategy.code) := by
  cases h
  case answered | halted | arg0 | arg1 => exact .inl ⟨rfl, rfl⟩
  case refused | failed | invalid => exact .inr (.inl ⟨‹s.fatal = false›, ErrorCode.code_le _⟩)
  case unmapped => exact .inr (.inr ⟨rfl, rfl⟩)
  all_goals exact .inr (.inl ⟨‹s.fatal = false›, Nat.zero_le 13⟩)

/-- Settles O53. -/
theorem stepKeepsStatusInvariant : Obligations.StepKeepsStatusInvariant := by
  intro s t h
  rcases step_next h with ⟨-, rfl⟩ | ⟨rest, -, rfl⟩ | ⟨a, rest, i, -, -, hexec⟩
  · exact ⟨id, id⟩
  · exact ⟨fun _ hfatal => Bool.noConfusion hfatal, fun _ => Nat.zero_le 13⟩
  · rcases (exec_effect_commandOf hexec).status_cases with ⟨hfatal, hresult⟩ | ⟨hfatal, hresult⟩ | ⟨hfatal, hresult⟩
    · simp only [StatusInv, hfatal, hresult]
      exact ⟨id, id⟩
    · exact ⟨fun _ hhalted => Bool.noConfusion (hfatal.symm.trans hhalted), fun _ => hresult⟩
    · exact ⟨fun _ _ => hresult, fun _ => hresult ▸ ErrorCode.code_le _⟩

@[simp] theorem lastResponse_respond (r : Response) (s : State) : lastResponse (respond r s) = some r := by
  simp [lastResponse]

theorem Effect.reports_in_result {i : Instr} {s t : State} (h : Effect i s t) (hc : accessClass i = .operationWrite)
    (hf : s.fatal = false) :
    (lastResponse t = some writeOkay ∧ t.result = 0#8) ∨
    (lastResponse t = some writeError ∧ t.result.toNat ∈ [2, 3, 4, 6, 7, 8, 11, 13]) := by
  cases h
  case answered hw => simp [isWrite, hc] at hw
  case halted => simp_all
  case refused => simp_all
  case arg0 | arg1 => simp [accessClass] at hc
  case failed e he _ _ =>
    have hcode : ∀ k ∈ [2, 3, 4, 13], k ∈ [2, 3, 4, 6, 7, 8, 11, 13] := by decide
    exact .inr ⟨lastResponse_respond _ _, hcode _ he⟩
  case invalid e he =>
    have hcode : ∀ k ∈ [6, 7, 8], k ∈ [2, 3, 4, 6, 7, 8, 11, 13] := by decide
    exact .inr ⟨lastResponse_respond _ _, hcode _ (code_of_validateGenerate he)⟩
  case unmapped =>
    have hcode : ErrorCode.unmappedStrategy.code.toNat ∈ [2, 3, 4, 6, 7, 8, 11, 13] := by decide
    exact .inr ⟨lastResponse_respond _ _, hcode⟩
  all_goals exact .inl ⟨lastResponse_respond _ _, rfl⟩

/-- Settles O54. -/
theorem operationWritesReportInResult : Obligations.OperationWritesReportInResult :=
  fun i _ _ hc hf h => (exec_effect_commandOf h).reports_in_result ((accessClass_commandOf i).trans hc) hf

/-- What an access leaves of the state when its response is ERROR. -/
theorem Effect.changes_only_status {i : Instr} {s t : State} {r : Response} (h : Effect i s t)
    (hr : lastResponse t = some r) (herror : r.resp = .error) :
    t = { s with result := t.result, fatal := t.fatal, outLen := t.outLen, responses := s.responses ++ [r] } := by
  cases h <;> obtain rfl := Option.some.inj ((lastResponse_respond _ _).symm.trans hr)
  case answered | halted | refused | failed | invalid | unmapped => rfl
  all_goals exact Resp.noConfusion herror

/-- Settles O55. -/
theorem failedAccessChangesOnlyStatus : Obligations.FailedAccessChangesOnlyStatus := by
  intro i s t r h hr herror
  have he := exec_effect_commandOf h
  refine ⟨he.changes_only_status hr herror, fun hi => ?_⟩
  obtain ⟨houtLen, hfatal, -⟩ := he.keeps_generated hi
  exact ⟨houtLen, hfatal⟩

end Sys2Proof.Machine
end

section
/-! The framebuffer's storage pixel by pixel, and the commands that write it: O25, O26 and O28 to O30. -/

namespace Sys2Proof.Machine

/-! ## Pixels and their addresses (20_memory.md R62) -/

/-- The coordinate of the pixel whose bytes an address is among. -/
def coordOf (a : Nat) : Nat × Nat := (a / 4 % 65536, a / 4 / 65536)

theorem coordOf_cellAddr {x : Nat} (hx : x < 65536) (y : Nat) {c : Nat} (hc : c < 4) :
    coordOf (cellAddr x y c) = (x, y) := by
  simp only [coordOf, cellAddr, Prod.mk.injEq]
  omega

theorem cellAddr_mod (x y : Nat) {c : Nat} (hc : c < 4) : cellAddr x y c % 4 = c := by
  simp only [cellAddr]
  omega

theorem ColorMode.cells_le (m : ColorMode) : m.cells ≤ 4 := by cases m <;> decide

theorem mem_allCoords {w h x y : Nat} : (x, y) ∈ allCoords w h ↔ x < w ∧ y < h := by
  simp [allCoords, and_comm]

theorem inFrame_eq_true_iff (m : ColorMode) (w h a : Nat) :
    inFrame m w h a = true ↔ coordOf a ∈ allCoords w h ∧ a % 4 < m.cells := by
  simp [inFrame, coordOf, mem_allCoords, and_assoc]

/-- The byte at an address after a pixel store: the pixel's own at its cells, and elsewhere what stood there. -/
theorem read_fbWrite_eq {mem : Memory} (h : mem.wf) (m : ColorMode) {x : Nat} (hx : x < 65536) (y : Nat) (p : Word)
    (a : Nat) :
    Memory.read (fbWrite mem m x y p) a =
      if coordOf a = (x, y) ∧ a % 4 < m.cells then (pixelBytes m p).getD (a % 4) 0#8 else Memory.read mem a := by
  have hcells := m.cells_le
  split
  next hin =>
    obtain ⟨hcoord, hcell⟩ := hin
    have ha : a = cellAddr x y 0 + a % 4 := by
      simp only [coordOf, Prod.mk.injEq] at hcoord
      simp only [cellAddr]
      omega
    have hsub : a - cellAddr x y 0 = a % 4 := by omega
    rw [read_fbWrite h, if_pos (by omega), hsub, List.getD_eq_getElem?_getD,
      List.getElem?_eq_getElem (by rwa [pixelBytes_length])]
    rfl
  next hout =>
    refine read_fbWrite_outside h m x y p a ?_
    simp only [coordOf, Prod.mk.injEq] at hout
    simp only [cellAddr]
    omega

section
variable {mem : Memory} (h : mem.wf) (m : ColorMode) (p : Word) {l : List (Nat × Nat)}
include h

theorem foldr_fbWrite_wf : Memory.wf (l.foldr (fun c acc => fbWrite acc m c.1 c.2 p) mem) := by
  induction l with
  | nil => exact h
  | cons c l ih => exact fbWrite_wf ih m c.1 c.2 p

/-- Pixel stores of one word, whatever their order, leave its bytes at the cells of all their coordinates. -/
theorem read_foldr_fbWrite (hl : ∀ c ∈ l, c.1 < 65536) (a : Nat) :
    Memory.read (l.foldr (fun c acc => fbWrite acc m c.1 c.2 p) mem) a =
      if coordOf a ∈ l ∧ a % 4 < m.cells then (pixelBytes m p).getD (a % 4) 0#8 else Memory.read mem a := by
  induction l with
  | nil => simp
  | cons c l ih =>
    rw [List.foldr_cons, read_fbWrite_eq (foldr_fbWrite_wf h m p) m (hl c List.mem_cons_self),
      ih fun d hd => hl d (List.mem_cons_of_mem c hd)]
    by_cases hc : coordOf a = c <;> by_cases hcell : a % 4 < m.cells <;> simp [hc, hcell]

end

theorem allCoords_lt {w h : Nat} (hw : w ≤ 65535) : ∀ c ∈ allCoords w h, c.1 < 65536 := fun _ hc => by
  have := (mem_allCoords.mp hc).1
  omega

/-- The byte at an address after a fill: the pixel's at the cells of the rectangle, and elsewhere what stood there. -/
theorem read_fbFill {mem : Memory} (hwf : mem.wf) (m : ColorMode) {w : Nat} (hw : w ≤ 65535) (h : Nat) (p : Word)
    (a : Nat) :
    Memory.read (fbFill mem m w h p) a =
      if inFrame m w h a = true then (pixelBytes m p).getD (a % 4) 0#8 else Memory.read mem a := by
  rw [fbFill, read_foldr_fbWrite (Memory.filter_wf hwf _) m p (allCoords_lt hw)]
  by_cases ha : inFrame m w h a = true
  · rw [if_pos ha, if_pos ((inFrame_eq_true_iff m w h a).mp ha)]
  · rw [if_neg ha, if_neg fun hin => ha ((inFrame_eq_true_iff m w h a).mpr hin),
      Memory.read_filter hwf fun b => !inFrame m w h b, if_pos (by simpa using ha)]

/-- Settles O29: after the fill and after the loop every byte reads alike, and both storages are canonical. -/
theorem fillIsTheLoopOfPixelWrites : Obligations.FillIsTheLoopOfPixelWrites := by
  intro mem m w h p hwf hw
  have hl : ∀ c ∈ (allCoords w h).reverse, c.1 < 65536 := by simpa using allCoords_lt hw
  rw [List.foldl_eq_foldr_reverse]
  refine Memory.ext_read (fbFill_wf hwf m w h p) (foldr_fbWrite_wf hwf m p) fun a => ?_
  rw [read_fbFill hwf m hw, read_foldr_fbWrite hwf m p hl]
  refine if_congr ?_ rfl rfl
  rw [inFrame_eq_true_iff, List.mem_reverse]

/-! ## Pixel words (41_framebuffer.md R140, R145, R147) -/

/-- A pixel read depends on its own cells alone. -/
theorem fbRead_congr {mem mem' : Memory} {m : ColorMode} {x y : Nat}
    (h : ∀ c, c < m.cells → Memory.read mem (cellAddr x y c) = Memory.read mem' (cellAddr x y c)) :
    fbRead mem m x y = fbRead mem' m x y := by
  cases m with
  | mono | gray8 => simp only [fbRead, h 0 (by decide)]
  | rgb565 => simp only [fbRead, h 0 (by decide), h 1 (by decide)]
  | rgb888 => simp only [fbRead, h 0 (by decide), h 1 (by decide), h 2 (by decide)]
  | rgba8888 => simp only [fbRead, h 0 (by decide), h 1 (by decide), h 2 (by decide), h 3 (by decide)]

theorem fbRead_le (mem : Memory) (m : ColorMode) (x y : Nat) : (fbRead mem m x y).toNat ≤ maxPixel m := by
  cases m with
  | rgba8888 => exact Nat.le_of_lt_succ (BitVec.isLt _)
  | mono | gray8 | rgb565 | rgb888 =>
    rw [fbRead, BitVec.toNat_setWidth_of_le (by decide)]
    exact Nat.le_of_lt_succ (BitVec.isLt _)

/-- The used bits of a word in a mode, all other bits zero. -/
def usedBits (m : ColorMode) (p : Word) : Word := BitVec.ofNat 32 (p.toNat % (maxPixel m + 1))

theorem usedBits_of_valid {m : ColorMode} {p : Word} (h : validPixel m p = true) : usedBits m p = p := by
  rw [usedBits, Nat.mod_eq_of_lt (Nat.lt_succ_of_le ((validPixel_iff m p).mp h)), BitVec.ofNat_toNat,
    BitVec.setWidth_eq]

/-- The channels of a pixel word as numbers (41_framebuffer.md R147). -/
def channelValues : ColorMode → Nat → List Nat
  | .mono, n => [n % 2]
  | .gray8, n => [n % 256]
  | .rgb565, n => [n % 65536]
  | .rgb888, n => [n / 65536 % 256, n / 256 % 256, n % 256]
  | .rgba8888, n => [n / 16777216, n / 65536 % 256, n / 256 % 256, n % 256]

theorem chan_map_toNat (m : ColorMode) (p : Word) : (chan m p).map BitVec.toNat = channelValues m p.toNat := by
  obtain ⟨hmono, hgray8, hrgb565, hrgb888, hrgba8888⟩ := chan_toNat p
  cases m <;> assumption

/-- The channels of a word are those of its used bits. -/
theorem chan_usedBits (m : ColorMode) (p : Word) : chan m (usedBits m p) = chan m p := by
  refine List.map_injective_iff.mpr BitVec.toNat_injective ?_
  rw [chan_map_toNat, chan_map_toNat]
  have hp := p.isLt
  cases m <;> simp [channelValues, usedBits, maxPixel] <;> omega

theorem chan_length (m : ColorMode) (p : Word) : (chan m p).length = m.channels := by cases m <;> rfl

theorem chan_lt {m : ColorMode} {p : Word} {e : BitVec 16} (he : e ∈ chan m p) : e.toNat < 2 ^ m.elemWidth := by
  have hvalue : e.toNat ∈ channelValues m p.toNat := chan_map_toNat m p ▸ List.mem_map_of_mem he
  have hp := p.isLt
  cases m <;> simp [channelValues] at hvalue <;> simp only [ColorMode.elemWidth] <;> omega

theorem read_fbWrite_cell {mem : Memory} (h : mem.wf) (m : ColorMode) {x : Nat} (hx : x < 65536) (y : Nat)
    (p : Word) {c : Nat} (hc : c < m.cells) :
    Memory.read (fbWrite mem m x y p) (cellAddr x y c) = (pixelBytes m p).getD c 0#8 := by
  have hc4 : c < 4 := Nat.lt_of_lt_of_le hc m.cells_le
  rw [read_fbWrite_eq h m hx, cellAddr_mod x y hc4, if_pos ⟨coordOf_cellAddr hx y hc4, hc⟩]

theorem toNat_append_byte {n : Nat} (x : BitVec n) (b : Byte) : (x ++ b).toNat = x.toNat * 256 + b.toNat := by
  rw [BitVec.toNat_append, ← Nat.shiftLeft_add_eq_or_of_lt b.isLt, Nat.shiftLeft_eq]

/-- What is read back after a pixel store is the used bits of the word. -/
theorem fbRead_fbWrite_self {mem : Memory} (h : mem.wf) (m : ColorMode) {x : Nat} (hx : x < 65536) (y : Nat)
    (p : Word) : fbRead (fbWrite mem m x y p) m x y = usedBits m p := by
  have hcell : ∀ c, c < m.cells → _ := fun c => read_fbWrite_cell (c := c) h m hx y p
  apply BitVec.eq_of_toNat_eq
  have hp := p.isLt
  cases m with
  | mono | gray8 =>
    rw [fbRead, hcell 0 (by decide)]
    simp [pixelBytes, chan, elemBytes, usedBits, maxPixel]
  | rgb565 =>
    rw [fbRead, hcell 0 (by decide), hcell 1 (by decide)]
    simp [pixelBytes, chan, elemBytes, usedBits, maxPixel, toNat_append_byte, Nat.shiftRight_eq_div_pow]
    omega
  | rgb888 =>
    rw [fbRead, hcell 0 (by decide), hcell 1 (by decide), hcell 2 (by decide)]
    simp [pixelBytes, chan, elemBytes, usedBits, maxPixel, toNat_append_byte, Nat.shiftRight_eq_div_pow]
    omega
  | rgba8888 =>
    rw [fbRead, hcell 0 (by decide), hcell 1 (by decide), hcell 2 (by decide), hcell 3 (by decide)]
    simp [pixelBytes, chan, elemBytes, usedBits, maxPixel, toNat_append_byte, Nat.shiftRight_eq_div_pow]
    omega

/-- A pixel store leaves every other pixel of the storage alone. -/
theorem fbRead_fbWrite_other {mem : Memory} (h : mem.wf) (m : ColorMode) {x x' : Nat} (hx : x < 65536)
    (hx' : x' < 65536) {y y' : Nat} (hne : (x', y') ≠ (x, y)) (p : Word) :
    fbRead (fbWrite mem m x y p) m x' y' = fbRead mem m x' y' := by
  refine fbRead_congr fun c hc => ?_
  have hc4 : c < 4 := Nat.lt_of_lt_of_le hc m.cells_le
  rw [read_fbWrite_eq h m hx, coordOf_cellAddr hx' y' hc4, if_neg fun hsame => hne hsame.1]

/-- Settles O30. -/
theorem storedPixelsAreValid : Obligations.StoredPixelsAreValid := by
  refine fun mem m x y p => ⟨(validPixel_iff m _).mpr (fbRead_le mem m x y), fun hwf hx => ?_, chan_length m p,
    fun _ => chan_lt⟩
  rw [fbRead_fbWrite_self hwf m hx, chan_usedBits]

/-! ## FB_SETUP (41_framebuffer.md R141) -/

theorem ColorMode.ofCode_of_toNat_eq {w : Word} {m : ColorMode} (h : w.toNat = m.code) :
    ColorMode.ofCode w = some m := by
  have hw : w = BitVec.ofNat 32 m.code := by rw [← h, BitVec.ofNat_toNat, BitVec.setWidth_eq]
  rw [hw]
  cases m <;> rfl

theorem ColorMode.exists_code {n : Nat} (h : n ≤ 4) : ∃ m : ColorMode, n = m.code := by
  interval_cases n
  exacts [⟨.mono, rfl⟩, ⟨.gray8, rfl⟩, ⟨.rgb565, rfl⟩, ⟨.rgb888, rfl⟩, ⟨.rgba8888, rfl⟩]

theorem exec_fbSetup_of_noMode {s : State} (hf : s.fatal = false) (h : ColorMode.ofCode s.arg1 = none) :
    exec .fbSetup s = .next (raise .typeMismatch s) := by
  refine (unlessHalted_of_running hf _).trans ?_
  rw [h]

/-- FB_SETUP with a mode: the dimensions and the capacity are all it still checks. -/
theorem exec_fbSetup_of_mode {s : State} {m : ColorMode} (hf : s.fatal = false)
    (hm : ColorMode.ofCode s.arg1 = some m) :
    exec .fbSetup s =
      if s.arg0.toNat % 65536 < 1 ∨ s.params.maxWidth < s.arg0.toNat % 65536 ∨ s.arg0.toNat / 65536 < 1 ∨
          s.params.maxHeight < s.arg0.toNat / 65536 ∨
          s.params.fbMaxPixels < s.arg0.toNat % 65536 * (s.arg0.toNat / 65536) then .next (raise .rangeError s)
      else .next (complete { s with
        fbWidth := argLow s.arg0, fbHeight := argHigh s.arg0, fbMode := m, fb := fbCleared }) := by
  refine (unlessHalted_of_running hf _).trans ?_
  simp only [hm, argLow_toNat, argHigh_toNat, gt_iff_lt]
  rw [← ite_or]
  simp only [or_assoc]

theorem ofNat_argLow (w : Word) : BitVec.ofNat 16 (w.toNat % 65536) = argLow w := by
  rw [← argLow_toNat, BitVec.ofNat_toNat, BitVec.setWidth_eq]

theorem ofNat_argHigh (w : Word) : BitVec.ofNat 16 (w.toNat / 65536) = argHigh w := by
  rw [← argHigh_toNat, BitVec.ofNat_toNat, BitVec.setWidth_eq]

/-- Settles O25: the storage left is the cleared one. -/
theorem fbSetupMakesZeroFramebuffer : Obligations.FbSetupMakesZeroFramebuffer := by
  have hw : decodeCommand 0x00000001#32 = .fbSetup := rfl
  refine ⟨hw, ?_⟩
  intro i s hi hf w h
  rw [exec_of_command hw hi]
  refine ⟨fun hbig => ?_, fun hcode hbad => ?_, fun m hcode hw1 hw2 hh1 hh2 hcap => ?_⟩
  · exact exec_fbSetup_of_noMode hf (ColorMode.ofCode_eq_none hbig)
  · obtain ⟨m, hm⟩ := ColorMode.exists_code hcode
    exact (exec_fbSetup_of_mode hf (ColorMode.ofCode_of_toNat_eq hm)).trans (if_pos hbad)
  · refine ⟨fbCleared, ?_, fbCleared_wf, fun x y => fbRead_cleared m x y, fun _ => rfl⟩
    have hpass : ¬ (w < 1 ∨ s.params.maxWidth < w ∨ h < 1 ∨ s.params.maxHeight < h ∨
        s.params.fbMaxPixels < w * h) := by
      simp only [not_or, Nat.not_lt]
      exact ⟨hw1, hw2, hh1, hh2, hcap⟩
    rw [exec_fbSetup_of_mode hf (ColorMode.ofCode_of_toNat_eq hcode), if_neg hpass, ← ofNat_argLow, ← ofNat_argHigh]
    rfl

/-! ## FB_WRITE and FB_FILL (41_framebuffer.md R142, R144) -/

theorem exec_fbWrite_of_outOfBounds {s : State} (hf : s.fatal = false)
    (h : s.fbWidth.toNat ≤ s.arg0.toNat % 65536 ∨ s.fbHeight.toNat ≤ s.arg0.toNat / 65536) :
    exec .fbWrite s = .next (raise .outOfRange s) :=
  (unlessHalted_of_running hf _).trans (if_pos ((outOfBounds_iff _ _ _).mpr (by omega)))

theorem exec_fbWrite_of_valid {s : State} (hf : s.fatal = false) (hx : s.arg0.toNat % 65536 < s.fbWidth.toNat)
    (hy : s.arg0.toNat / 65536 < s.fbHeight.toNat) (hv : validPixel s.fbMode s.arg1 = true) :
    exec .fbWrite s = .next (complete { s with
      fb := fbWrite s.fb s.fbMode (s.arg0.toNat % 65536) (s.arg0.toNat / 65536) s.arg1 }) := by
  rw [← argLow_toNat, ← argHigh_toNat]
  refine (unlessHalted_of_running hf _).trans ?_
  rw [if_neg fun hout => (outOfBounds_iff _ _ _).mp hout ⟨hx, hy⟩, if_neg (by simp [hv])]

/-- Settles O26. -/
theorem fbWriteStoresOnePixel : Obligations.FbWriteStoresOnePixel := by
  have hw : decodeCommand 0x00000002#32 = .fbWrite := rfl
  refine ⟨hw, ?_⟩
  intro i s hi hf x y
  rw [exec_of_command hw hi]
  refine ⟨fun hout => ?_, fun hx hy hv => ?_, fun hx hy hv hwf => ?_⟩
  · exact exec_fbWrite_of_outOfBounds hf hout
  · exact exec_fbWrite_of_invalid hf ((argLow_lt_iff _ _).mpr hx) ((argHigh_lt_iff _ _).mpr hy) hv
  · have hx16 : x < 65536 := Nat.mod_lt _ (by decide)
    exact ⟨_, exec_fbWrite_of_valid hf hx hy hv, fbWrite_wf hwf _ x y _,
      (fbRead_fbWrite_self hwf _ hx16 y _).trans (usedBits_of_valid hv),
      fun x' y' hx' hne => fbRead_fbWrite_other hwf _ hx16 hx' hne _,
      fun a ha => read_fbWrite_outside hwf _ x y _ a ha⟩

theorem exec_fbFill_of_valid {s : State} (hf : s.fatal = false) (hv : validPixel s.fbMode s.arg1 = true) :
    exec .fbFill s = .next (complete { s with
      fb := fbFill s.fb s.fbMode s.fbWidth.toNat s.fbHeight.toNat s.arg1 }) :=
  (unlessHalted_of_running hf _).trans (if_neg (by simp [hv]))

theorem inFrame_cellAddr {m : ColorMode} {w h x y c : Nat} (hw : w ≤ 65535) (hx : x < w) (hy : y < h)
    (hc : c < m.cells) : inFrame m w h (cellAddr x y c) = true := by
  have hc4 : c < 4 := Nat.lt_of_lt_of_le hc m.cells_le
  rw [inFrame_eq_true_iff, coordOf_cellAddr (by omega) y hc4, cellAddr_mod x y hc4, mem_allCoords]
  exact ⟨⟨hx, hy⟩, hc⟩

/-- In the rectangle a fill reads as a store of its word at the pixel itself. -/
theorem fbRead_fbFill {mem : Memory} (hwf : mem.wf) (m : ColorMode) {w h x y : Nat} (hw : w ≤ 65535) (hx : x < w)
    (hy : y < h) (p : Word) : fbRead (fbFill mem m w h p) m x y = usedBits m p := by
  have hx16 : x < 65536 := by omega
  rw [← fbRead_fbWrite_self hwf m hx16 y p]
  refine fbRead_congr fun c hc => ?_
  rw [read_fbWrite_cell hwf m hx16 y p hc, read_fbFill hwf m hw, if_pos (inFrame_cellAddr hw hx hy hc),
    cellAddr_mod x y (Nat.lt_of_lt_of_le hc m.cells_le)]

theorem fbFill_empty (mem : Memory) (m : ColorMode) (p : Word) : fbFill mem m 0 0 p = mem := by
  simp [fbFill, allCoords, inFrame]

/-- Settles O28. -/
theorem fbFillFillsEveryPixel : Obligations.FbFillFillsEveryPixel := by
  have hw : decodeCommand 0x00000004#32 = .fbFill := rfl
  refine ⟨hw, fun i s hi hf => ?_⟩
  rw [exec_of_command hw hi]
  refine ⟨fun hv => ?_, fun hv hwf => ?_⟩
  · exact exec_fbFill_of_invalid hf hv
  · have hw16 : s.fbWidth.toNat ≤ 65535 := Nat.le_of_lt_succ s.fbWidth.isLt
    refine ⟨_, exec_fbFill_of_valid hf hv, fbFill_wf hwf _ _ _ _, fun x y hx hy => ?_, fun a ha => ?_, ?_⟩
    · exact (fbRead_fbFill hwf _ hw16 hx hy _).trans (usedBits_of_valid hv)
    · rw [read_fbFill hwf _ hw16, if_neg (by simp [ha])]
    · rintro ⟨hwidth, hheight⟩
      rw [hwidth, hheight]
      exact fbFill_empty s.fb s.fbMode s.arg1

end Sys2Proof.Machine
end

section
/-! The scan orders as bijections and by their page groups, and GENERATE's frame: O32, O34 and O41 to O43. -/

namespace Sys2Proof.Machine

/-! ## The closed forms (42_scan_order.md R179, R180) -/

/-- Settles O32: the sequence lists the rectangle's coordinates once each, and the closed form gives its entries. -/
theorem scanIsBijection : Obligations.ScanIsBijection := by
  intro d w h _ _ hpage
  have hseq := scanSeq_eq_map_scanCoord d w h hpage
  refine ⟨fun k hk => ?_, fun x y hx hy => ?_⟩
  · refine (mem_scanSeq d w h hpage _ _).mp ?_
    rw [hseq]
    exact List.mem_map_of_mem (List.mem_range.mpr hk)
  · have hmem := (mem_scanSeq d w h hpage x y).mpr ⟨hx, hy⟩
    have hnodup := nodup_scanSeq d w h hpage
    rw [hseq] at hmem hnodup
    obtain ⟨k, hk, hcoord⟩ := List.mem_map.mp hmem
    refine ⟨k, ⟨List.mem_range.mp hk, hcoord⟩, fun k' ⟨hk', hcoord'⟩ => ?_⟩
    exact List.inj_on_of_nodup_map hnodup (List.mem_range.mpr hk') hk (hcoord'.trans hcoord.symm)

theorem scanSeq_getElem? {d : ScanOrder} {w h k : Nat} (hpage : d.isPageBased = true → h % 8 = 0) (hk : k < w * h) :
    (scanSeq d w h)[k]? = some (scanCoord d w h k) := scanLoopsHaveClosedForm.1 d w h k hpage hk

/-- Settles O34. -/
theorem pageGroupsAreColumns : Obligations.PageGroupsAreColumns := by
  intro w h j i h8 hj hi
  have hk : 8 * j + i < w * h := by omega
  rw [scanSeq_getElem? (fun _ => h8) hk, scanSeq_getElem? (fun _ => h8) hk, scanCoord_pageColumn_group w h j hi,
    scanCoord_pageColumnReversed_group w h j hi]
  exact ⟨rfl, rfl⟩

/-! ## An unmapped code past the validation (44_modulator.md R212) -/

theorem validateGenerate_eq_none {s : State} (hw : s.fbWidth.toNat = s.cfgWidth.toNat)
    (hh : s.fbHeight.toNat = s.cfgHeight.toNat) (hm : s.cfgModes.getLsbD s.fbMode.code = true)
    (hpage : s.cfgScan = 4#32 ∨ s.cfgScan = 5#32 → s.cfgHeight.toNat % 8 = 0) : validateGenerate s = none := by
  have hgeometry : ¬ (isPage s.cfgScan = true ∧ s.cfgHeight.toNat % 8 ≠ 0) := fun ⟨hisPage, h8⟩ =>
    h8 (hpage (by simpa [isPage] using hisPage))
  rw [validateGenerate, if_neg (resolution_matches hw hh), if_neg (by simp [modeSupported, hm]), if_neg hgeometry]

/-- Settles O41. -/
theorem generateHaltsOnUnmappedCode : Obligations.GenerateHaltsOnUnmappedCode := by
  intro i s hi hf hw hh hm hpage hcode
  rw [exec_of_command (c := .generate) (w := 0x10#32) rfl hi,
    exec_generate_of_valid hf (validateGenerate_eq_none hw hh hm hpage)]
  exact modulate_of_unmapped (hcode.imp ScanOrder.ofCode_eq_none Coder.ofCode_eq_none)

/-! ## The frame (44_modulator.md R213 to R221) -/

/-- L(m, N), the bytes of a frame of N pixels (44_modulator.md R221). -/
def frameLength : ColorMode → Nat → Nat
  | .mono, n => (n + 7) / 8
  | .gray8, n => n
  | .rgb565, n => 2 * n
  | .rgb888, n => 3 * n
  | .rgba8888, n => 4 * n

theorem emitFrame_length {m : ColorMode} {c : Coder} {px : List Word} {frame : List Byte}
    (h : emitFrame m c px = .ok frame) : frame.length = frameLength m px.length := by
  cases m with
  | mono =>
    cases (emitMono_eq c px).symm.trans h
    simp [frameLength, ceil8]
  | gray8 =>
    cases h
    exact List.length_map _
  | rgb565 =>
    cases h
    exact length_flatMap_of_length (n := 2) (fun _ => rfl) px
  | rgb888 =>
    cases (emitChannels_eq c _ px).symm.trans h
    exact length_flatMap_of_length (n := 3) (fun _ => rfl) px
  | rgba8888 =>
    cases (emitChannels_eq c _ px).symm.trans h
    exact length_flatMap_of_length (n := 4) (fun _ => rfl) px

theorem length_scanPix {s : State} {d : ScanOrder} (hpage : d.isPageBased = true → s.cfgHeight.toNat % 8 = 0) :
    (scanPix d s).length = pixelCount s := by
  rw [scanPix_eq_map_pixelAt hpage, List.length_map, List.length_range]

/-- Settles O42. -/
theorem generateEmitsOneFrame : Obligations.GenerateEmitsOneFrame := by
  intro i s d c hi h
  obtain ⟨frame, hframe⟩ := emitFrame_proceeds s.fbMode c (scanPix d s)
  rw [exec_of_command (c := .generate) (w := 0x10#32) rfl hi]
  refine ⟨frame, exec_generate_of_ready h hframe, ?_⟩
  rw [emitFrame_length hframe, length_scanPix h.pages]
  cases s.fbMode <;> rfl

theorem length_monoFrame (s : State) (d : ScanOrder) (c : Coder) :
    (monoFrame s d c).length = (pixelCount s + 7) / 8 := by
  simp [monoFrame, ceil8]

theorem getD_monoFrame {s : State} {d : ScanOrder} {c : Coder} {j : Nat} (hj : j < (monoFrame s d c).length) :
    (monoFrame s d c).getD j 0#8 = byteOfBits c (groupBit (scanPix d s) j) := by
  rw [List.getD_eq_getElem _ _ hj]
  simp only [monoFrame, List.getElem_map, List.getElem_range]

/-- Settles O43: bit i of group j stands at `bitPlace c i` of byte j. -/
theorem monoFrameBits : Obligations.MonoFrameBits := by
  intro s d c h hm
  refine ⟨monoFrame s d c, exec_generate_mono h hm, length_monoFrame s d c, fun j i hj hi => ?_⟩
  rw [getD_monoFrame hj, ← groupBit_scanPix h.pages, ← getLsbD_byteOfBits c (groupBit (scanPix d s) j) hi]
  cases c <;> rfl

end Sys2Proof.Machine
end

section
/-! Setters in either order, and the pseudo-instructions: O21 and O58. -/

namespace Sys2Proof.Machine

/-! ## A setter as its register and its check (40_config.md R117 to R124) -/

/-- A state with one CFG register changed. -/
def withCfg (r : RegName) (d : Word) (s : State) : State :=
  { s with
    cfgWidth := if r = .cfgWidth then d else s.cfgWidth
    cfgHeight := if r = .cfgHeight then d else s.cfgHeight
    cfgModes := if r = .cfgModes then d else s.cfgModes
    cfgScan := if r = .cfgScan then d else s.cfgScan
    cfgBitord := if r = .cfgBitord then d else s.cfgBitord
    cfgRowOffset := if r = .cfgRowOffset then d else s.cfgRowOffset
    cfgColOffset := if r = .cfgColOffset then d else s.cfgColOffset }

theorem withCfg_comm {a b : RegName} (h : a ≠ b) (d e : Word) (s : State) :
    withCfg a d (withCfg b e s) = withCfg b e (withCfg a d s) := by
  have hswap : ∀ (r : RegName) (v : Word),
      (if a = r then d else if b = r then e else v) = if b = r then e else if a = r then d else v :=
    fun r _ => ite_ite_comm (a = r) (b = r) d e fun ha hb => h (ha.trans hb.symm)
  simp only [withCfg, State.mk.injEq, true_and, and_true]
  and_intros <;> exact hswap _ _

/-- A write that takes its word exactly where it is acceptable answers OKAY exactly there. -/
theorem okay_iff_accepted {i : Instr} {s t u : State} {accept : Prop} (hw : isWrite i = true)
    (hu : lastResponse u = some writeOkay) (htake : s.fatal = false → accept → exec i s = .next u)
    (hrefuse : s.fatal = false → ¬ accept → ∃ code, exec i s = .next (failedWith s code)) :
    (exec i s = .next t ∧ lastResponse t = some writeOkay) ↔ s.fatal = false ∧ accept ∧ t = u := by
  constructor
  · rintro ⟨h, hokay⟩
    have hne : lastResponse t ≠ some writeError := fun herror =>
      writeError_ne_writeOkay (Option.some.inj (herror.symm.trans hokay))
    cases hf : s.fatal with
    | true =>
      cases (exec_of_halted hf hw).symm.trans h
      exact absurd (lastResponse_respond _ _) hne
    | false =>
      by_cases ha : accept
      · cases (htake hf ha).symm.trans h
        exact ⟨rfl, ha, rfl⟩
      · obtain ⟨code, hcode⟩ := hrefuse hf ha
        cases hcode.symm.trans h
        exact absurd (lastResponse_failedWith s code) hne
  · rintro ⟨hf, ha, rfl⟩
    exact ⟨htake hf ha, hu⟩

/-- `okay_iff_accepted` for a setter with one check. -/
theorem okay_iff_of_ite {i : Instr} {s t u : State} {accept : Prop} [Decidable accept] {code : BitVec 8}
    (hw : isWrite i = true) (hu : lastResponse u = some writeOkay)
    (h : s.fatal = false → exec i s = if accept then .next u else .next (failedWith s code)) :
    (exec i s = .next t ∧ lastResponse t = some writeOkay) ↔ s.fatal = false ∧ accept ∧ t = u :=
  okay_iff_accepted hw hu (fun hf ha => (h hf).trans (if_pos ha)) fun hf ha => ⟨code, (h hf).trans (if_neg ha)⟩

/-- When a setter answers OKAY, and what it then leaves: the check reads the word and the parameters alone. -/
theorem exists_setter {i : Instr} {r : RegName} (h : setterOf i = some r) :
    ∃ (d : Word) (accept : Params → Prop), ∀ s t,
      (exec i s = .next t ∧ lastResponse t = some writeOkay) ↔
        s.fatal = false ∧ accept s.params ∧ t = complete (withCfg r d s) := by
  have hokay : ∀ s, lastResponse (complete s) = some writeOkay := fun s => lastResponse_respond _ _
  cases i <;> first | (simp [setterOf] at h; done) | (obtain rfl := Option.some.inj h)
  case wrCfgWidth d =>
    exact ⟨d, fun p => 1 ≤ d.toInt ∧ d.toInt ≤ p.maxWidth, fun s _ =>
      okay_iff_of_ite rfl (hokay _) (exec_wrCfgWidth d)⟩
  case wrCfgHeight d =>
    exact ⟨d, fun p => 1 ≤ d.toInt ∧ d.toInt ≤ p.maxHeight, fun s _ =>
      okay_iff_of_ite rfl (hokay _) (exec_wrCfgHeight d)⟩
  case wrCfgModes d =>
    refine ⟨d, fun _ => d.toNat < 32 ∧ d.toNat ≠ 0, fun s _ => okay_iff_accepted rfl (hokay _) ?_ ?_⟩
    · rintro hf ⟨hsmall, hsome⟩
      rw [exec_wrCfgModes d hf, if_neg (Nat.not_le.mpr hsmall), if_neg hsome]
      rfl
    · intro hf hbad
      rw [exec_wrCfgModes d hf]
      split
      next => exact ⟨_, rfl⟩
      next hsmall => exact ⟨_, if_pos (by omega)⟩
  case wrCfgScan d => exact ⟨d, fun _ => d.toNat ≤ 5, fun s _ => okay_iff_of_ite rfl (hokay _) (exec_wrCfgScan d)⟩
  case wrCfgBitord d =>
    exact ⟨d, fun _ => d.toNat ≤ 1, fun s _ => okay_iff_of_ite rfl (hokay _) (exec_wrCfgBitord d)⟩
  case wrCfgRowOffset d =>
    exact ⟨d, fun _ => 0 ≤ d.toInt, fun s _ => okay_iff_of_ite rfl (hokay _) (exec_wrCfgRowOffset d)⟩
  case wrCfgColOffset d =>
    exact ⟨d, fun _ => 0 ≤ d.toInt, fun s _ => okay_iff_of_ite rfl (hokay _) (exec_wrCfgColOffset d)⟩

/-- Settles O21: neither setter reads what the other writes, and the two writes commute. -/
theorem successfulSettersCommute : Obligations.SuccessfulSettersCommute := by
  intro i j a b s t u ha hb hne hi hokay hj hokay'
  obtain ⟨d, accept, hsetter⟩ := exists_setter ha
  obtain ⟨e, accept', hsetter'⟩ := exists_setter hb
  obtain ⟨hf, hd, rfl⟩ := (hsetter s t).mp ⟨hi, hokay⟩
  obtain ⟨-, he, rfl⟩ := (hsetter' _ u).mp ⟨hj, hokay'⟩
  obtain ⟨hexec, hresponse⟩ := (hsetter' s _).mpr ⟨hf, he, rfl⟩
  have hcomm : complete (withCfg b e (complete (withCfg a d s))) = complete (withCfg a d (complete (withCfg b e s))) :=
    congrArg (fun x => complete (complete x)) (withCfg_comm hne.symm e d s)
  obtain ⟨hexec', -⟩ := (hsetter (complete (withCfg b e s)) _).mpr ⟨hf, hd, hcomm⟩
  exact ⟨_, hexec, hresponse, hexec'⟩

/-! ## Runs of accesses (30_encoding.md R95) -/

theorem run_of_step {s t : State} (h : step s = .next t) (k : Nat) :
    Host.Core.run core (k + 1) s = Host.Core.run core k t := by
  have hstep : core.step s = .next t := h
  simp only [Host.Core.run, hstep]

theorem run_one (s : State) : Host.Core.run core 1 s = step s := by
  obtain ⟨t, ht⟩ := step_proceeds s
  exact (run_of_step ht 0).trans ht.symm

/-- The access presented first is the instruction it decodes to. -/
theorem step_presented {a : Access} {i : Instr} (h : decodeAccess a = .ok i) (s : State) (rest : List Input) :
    step { s with inputs := .access a :: rest } = exec i { s with inputs := rest } := step_of_access rfl h

theorem run_wrArg0 {s : State} (hf : s.fatal = false) (v : Word) (rest : List Input) (k : Nat) :
    Host.Core.run core (k + 1) { s with inputs := .access (.write 0x0C#8 v) :: rest } =
      Host.Core.run core k { s with arg0 := v, inputs := rest, responses := s.responses ++ [writeOkay] } :=
  have hwrite := unlessHalted_of_running (s := { s with inputs := rest }) hf
  run_of_step ((step_presented (i := .wrArg0 v) rfl s rest).trans (hwrite _)) k

theorem run_wrArg1 {s : State} (hf : s.fatal = false) (v : Word) (rest : List Input) (k : Nat) :
    Host.Core.run core (k + 1) { s with inputs := .access (.write 0x10#8 v) :: rest } =
      Host.Core.run core k { s with arg1 := v, inputs := rest, responses := s.responses ++ [writeOkay] } :=
  have hwrite := unlessHalted_of_running (s := { s with inputs := rest }) hf
  run_of_step ((step_presented (i := .wrArg1 v) rfl s rest).trans (hwrite _)) k

theorem step_wrCmd (s : State) (w : Word) (rest : List Input) :
    step { s with inputs := .access (.write 0x08#8 w) :: rest } = exec (decodeCommand w) { s with inputs := rest } :=
  (step_presented (i := .wrCmd w) rfl s rest).trans (execWrCmd_eq_exec w _)

/-- SETUP and PIX: the two argument registers, then the command. -/
theorem run_arg0_arg1_cmd {s : State} (hf : s.fatal = false) (v p w : Word) (rest : List Input) :
    Host.Core.run core 3 { s with
        inputs := .access (.write 0x0C#8 v) :: .access (.write 0x10#8 p) :: .access (.write 0x08#8 w) :: rest } =
      exec (decodeCommand w) { s with
        arg0 := v, arg1 := p, inputs := rest, responses := s.responses ++ [writeOkay, writeOkay] } := by
  rw [run_wrArg0 hf, run_wrArg1 (s := { s with arg0 := v, responses := s.responses ++ [writeOkay] }) hf, run_one,
    List.append_cons s.responses writeOkay [writeOkay]]
  exact step_wrCmd { s with arg0 := v, arg1 := p, responses := s.responses ++ [writeOkay] ++ [writeOkay] } w rest

/-- FILL: ARG1, then the command. -/
theorem run_arg1_cmd {s : State} (hf : s.fatal = false) (p w : Word) (rest : List Input) :
    Host.Core.run core 2 { s with inputs := .access (.write 0x10#8 p) :: .access (.write 0x08#8 w) :: rest } =
      exec (decodeCommand w) { s with arg1 := p, inputs := rest, responses := s.responses ++ [writeOkay] } := by
  rw [run_wrArg1 hf, run_one]
  exact step_wrCmd { s with arg1 := p, responses := s.responses ++ [writeOkay] } w rest

/-- FB_READ does not see what the outside has still to present. -/
theorem exec_fbRead_inputs {s t : State} (h : exec .fbRead s = .next t) (hf : s.fatal = false) (l : List Input) :
    exec .fbRead { s with inputs := l } = .next { t with inputs := l } := by
  rw [exec_fbRead_of_running hf] at h
  rw [exec_fbRead_of_running (s := { s with inputs := l }) hf]
  split at h
  next hin =>
    cases h
    exact if_pos hin
  next hout =>
    cases h
    exact if_neg hout

theorem run_peek {s : State} (hf : s.fatal = false) (v : Word) (rest : List Input) :
    ∃ t, exec .fbRead { s with arg0 := v, inputs := rest, responses := s.responses ++ [writeOkay] } = .next t ∧
      Host.Core.run core 3 { s with
          inputs := .access (.write 0x0C#8 v) :: .access (.write 0x08#8 0x03#32) :: .access (.read 0x14#8) :: rest } =
        .next { t with responses := t.responses ++ [{ resp := .okay, rdata := some t.rdata }] } := by
  obtain ⟨t, ht⟩ := exec_proceeds .fbRead { s with arg0 := v, inputs := rest, responses := s.responses ++ [writeOkay] }
  have hinputs : t.inputs = rest := (exec_effect_commandOf ht).keeps_inputs
  have hcmd := (step_wrCmd { s with arg0 := v, responses := s.responses ++ [writeOkay] } 0x03#32
    (.access (.read 0x14#8) :: rest)).trans (exec_fbRead_inputs ht hf (.access (.read 0x14#8) :: rest))
  refine ⟨t, ht, ?_⟩
  rw [run_wrArg0 hf, run_of_step hcmd, run_one, step_presented (i := .rdRdata) rfl, ← hinputs]
  rfl

theorem run_check (s : State) (rest : List Input) :
    Host.Core.run core 1 { s with inputs := .access (.read 0x04#8) :: rest } =
      .next (readDone (statusWord s) { s with inputs := rest }) :=
  (run_one _).trans (step_presented (i := .rdStatus) rfl s rest)

/-- Settles O58. -/
theorem pseudoInstructionsRunTheirCommand : Obligations.PseudoInstructionsRunTheirCommand := by
  refine ⟨fun s rest a b p hf => ⟨run_arg0_arg1_cmd hf (b ++ a) p 0x01#32 rest,
    run_arg0_arg1_cmd hf (b ++ a) p 0x02#32 rest, run_peek hf (b ++ a) rest, run_arg1_cmd hf p 0x04#32 rest,
    (run_one _).trans (step_wrCmd s 0x10#32 rest)⟩, fun s rest => ?_⟩
  rw [← statusWord_eq_append]
  exact run_check s rest

end Sys2Proof.Machine
end

section
/-! The invariant of every reachable state: O51. -/

namespace Sys2Proof.Machine

/-! ## The configuration (10_state.md R55) -/

theorem toNat_eq_sint32 {d : Word} (h : 0 ≤ sint32 d) : (d.toNat : Int) = sint32 d ∧ d.toNat < 2147483648 := by
  have hd := BitVec.toInt_eq_toNat_cond d
  have hlt := d.isLt
  simp only [sint32] at h ⊢
  split at hd <;> omega

/-- Each setter's check is the clause of R55 for its register. -/
theorem Effect.keeps_cfgInv {i : Instr} {s t : State} (h : Effect i s t) (hs : CfgInv s) : CfgInv t := by
  cases h
  case width d _ hd =>
    obtain ⟨hlow, hhigh⟩ := not_or.mp hd
    obtain ⟨hnat, -⟩ := toNat_eq_sint32 (d := d) (by omega)
    exact { hs with
      width_pos := by show 1 ≤ d.toNat; omega
      width_le := by show d.toNat ≤ s.params.maxWidth; omega }
  case height d _ hd =>
    obtain ⟨hlow, hhigh⟩ := not_or.mp hd
    obtain ⟨hnat, -⟩ := toNat_eq_sint32 (d := d) (by omega)
    exact { hs with
      height_pos := by show 1 ≤ d.toNat; omega
      height_le := by show d.toNat ≤ s.params.maxHeight; omega }
  case modes h5 h0 _ => exact { hs with modes_some := h0, modes_only := not_not.mp h5 }
  case scan hd _ => exact { hs with scan_le := Nat.not_lt.mp hd }
  case bitord hd _ => exact { hs with bitord_le := Nat.not_lt.mp hd }
  case rowOffset hd _ => exact { hs with row_lt := (toNat_eq_sint32 (Int.not_lt.mp hd)).2 }
  case colOffset hd _ => exact { hs with col_lt := (toNat_eq_sint32 (Int.not_lt.mp hd)).2 }
  all_goals exact { hs with }

/-! ## The framebuffer (10_state.md R56) -/

/-- A property of the cells of a canonical storage is one of what a read finds. -/
theorem Memory.forall_cells {mem : Memory} (h : mem.wf) {P : Nat → Byte → Prop}
    (hread : ∀ a, Memory.read mem a ≠ 0#8 → P a (Memory.read mem a)) : ∀ c ∈ mem, P c.1 c.2 := by
  intro c hc
  have hcell := Memory.read_mem h hc
  exact hcell ▸ hread c.1 (hcell ▸ h.2 c hc)

theorem pixelBytes_mono_le (p : Word) (k : Nat) : ((pixelBytes .mono p).getD k 0#8).toNat ≤ 1 := by
  cases k with
  | zero => simp [pixelBytes, chan, elemBytes]; omega
  | succ k => exact Nat.zero_le 1

/-- A storage that holds pixel bytes at some cells of the framebuffer and elsewhere what stood there. -/
theorem FbInv.of_pixels {s : State} (h : FbInv s) {mem : Memory} (hwf : mem.wf) {p : Word} {stored : Nat → Prop}
    [DecidablePred stored]
    (hin : ∀ a, stored a → inFrame s.fbMode s.fbWidth.toNat s.fbHeight.toNat a = true)
    (hread : ∀ a, Memory.read mem a =
      if stored a then (pixelBytes s.fbMode p).getD (a % 4) 0#8 else Memory.read s.fb a) :
    FbInv (complete { s with fb := mem }) where
  descriptor := h.descriptor
  canonical := hwf
  inside := by
    refine Memory.forall_cells hwf (P := fun a _ => inFrame _ _ _ a = true) fun a hne => ?_
    by_cases ha : stored a
    · exact hin a ha
    · rw [hread, if_neg ha] at hne
      exact h.inside _ (Memory.mem_of_read_ne hne)
  monoBit := by
    intro hm
    refine Memory.forall_cells hwf (P := fun _ v => v.toNat ≤ 1) fun a hne => ?_
    by_cases ha : stored a
    · rw [hread, if_pos ha, show s.fbMode = .mono from hm]
      exact pixelBytes_mono_le p _
    · rw [hread, if_neg ha] at hne ⊢
      exact h.monoBit hm _ (Memory.mem_of_read_ne hne)

theorem Effect.keeps_fbInv {i : Instr} {s t : State} (h : Effect i s t) (hs : FbInv s) : FbInv t := by
  cases h
  case setup m hm hd hp =>
    simp only [not_or, Nat.not_lt] at hd hp
    obtain ⟨hw1, hw2, hh1, hh2⟩ := hd
    exact {
      descriptor := .inr ⟨hw1, hw2, hh1, hh2, hp⟩
      canonical := fbCleared_wf
      inside := fun _ hc => absurd hc List.not_mem_nil
      monoBit := fun _ _ hc => absurd hc List.not_mem_nil }
  case write hb hv =>
    simp only [outOfBounds_iff, not_not] at hb
    have hx : (argLow s.arg0).toNat < 65536 := (argLow s.arg0).isLt
    refine hs.of_pixels (fbWrite_wf hs.canonical _ _ _ _) (fun a ha => ?_)
      (read_fbWrite_eq hs.canonical s.fbMode hx (argHigh s.arg0).toNat s.arg1)
    rw [inFrame_eq_true_iff, ha.1, mem_allCoords, argLow_toNat, argHigh_toNat]
    exact ⟨hb, ha.2⟩
  case fill hv =>
    exact hs.of_pixels (fbFill_wf hs.canonical _ _ _ _) (fun _ => id)
      (read_fbFill hs.canonical s.fbMode (Nat.le_of_lt_succ s.fbWidth.isLt) s.fbHeight.toNat s.arg1)
  all_goals exact { hs with }

/-! ## The halt and the frames (10_state.md R49, R57) -/

theorem ScanOrder.ofCode_ne_none {w : Word} (h : w.toNat ≤ 5) : ScanOrder.ofCode w ≠ none := by
  have hcode : ∀ n < 6, ScanOrder.ofCode (BitVec.ofNat 32 n) ≠ none := by decide
  simpa using hcode w.toNat (Nat.lt_succ_of_le h)

theorem Coder.ofCode_ne_none {w : Word} (h : w.toNat ≤ 1) : Coder.ofCode w ≠ none := by
  have hcode : ∀ n < 2, Coder.ofCode (BitVec.ofNat 32 n) ≠ none := by decide
  simpa using hcode w.toNat (Nat.lt_succ_of_le h)

/-- The unmapped codes are the setters' to refuse, so a legal configuration never halts the core. -/
theorem Effect.keeps_running {i : Instr} {s t : State} (h : Effect i s t) (hs : CfgInv s) (hf : s.fatal = false) :
    t.fatal = false := by
  cases h
  case unmapped hn =>
    exact absurd hn (not_or.mpr ⟨ScanOrder.ofCode_ne_none hs.scan_le, Coder.ofCode_ne_none hs.bitord_le⟩)
  all_goals exact hf

theorem isPage_of_isPageBased {w : Word} {d : ScanOrder} (hd : ScanOrder.ofCode w = some d)
    (hpage : d.isPageBased = true) : isPage w = true := by
  by_contra hw
  simp only [isPage, Bool.or_eq_true, beq_iff_eq, not_or] at hw
  obtain ⟨h4, h5⟩ := hw
  simp only [ScanOrder.ofCode, if_neg h4, if_neg h5] at hd
  repeat' split at hd
  all_goals cases hd
  all_goals cases hpage

theorem pages_of_validateGenerate {s : State} {d : ScanOrder} (hv : validateGenerate s = none)
    (hd : ScanOrder.ofCode s.cfgScan = some d) (hpage : d.isPageBased = true) : s.cfgHeight.toNat % 8 = 0 := by
  by_contra h8
  have hgeometry : isPage s.cfgScan = true ∧ s.cfgHeight.toNat % 8 ≠ 0 := ⟨isPage_of_isPageBased hd hpage, h8⟩
  unfold validateGenerate at hv
  repeat' split at hv
  all_goals first | exact Option.noConfusion hv | contradiction

theorem frameLength_pos (m : ColorMode) {n : Nat} (h : 1 ≤ n) : 1 ≤ frameLength m n := by
  cases m <;> simp only [frameLength] <;> omega

/-- With a legal configuration a frame has at least one pixel, so at least one byte. -/
theorem emitFrame_ne_nil {s : State} {d : ScanOrder} {c : Coder} {frame : List Byte} (hs : CfgInv s)
    (hv : validateGenerate s = none) (hd : ScanOrder.ofCode s.cfgScan = some d)
    (he : emitFrame s.fbMode c (scanPix d s) = .ok frame) : frame ≠ [] := by
  have hpixels : 1 ≤ pixelCount s := Nat.mul_pos hs.width_pos hs.height_pos
  have hlen : frame.length = frameLength s.fbMode (pixelCount s) := by
    rw [emitFrame_length he, length_scanPix (pages_of_validateGenerate hv hd)]
  exact List.ne_nil_of_length_pos (hlen ▸ frameLength_pos s.fbMode hpixels)

theorem Effect.keeps_frames {i : Instr} {s t : State} (h : Effect i s t) (hs : CfgInv s) (hout : ∀ f ∈ s.out, f ≠ []) :
    ∀ f ∈ t.out, f ≠ [] := by
  cases h
  case frame d c bytes _ hv hd hc he =>
    intro f hf
    rcases List.mem_append.mp hf with hold | hnew
    · exact hout f hold
    · rw [List.mem_singleton.mp hnew]
      exact emitFrame_ne_nil hs hv hd he
  all_goals exact hout

/-! ## The invariant as a whole -/

theorem Effect.keeps_coreInv {i : Instr} {s t : State} (h : Effect i s t) (hs : CoreInv s) : CoreInv t where
  params := h.keeps_params ▸ hs.params
  cfg := h.keeps_cfgInv hs.cfg
  fbuf := h.keeps_fbInv hs.fbuf
  running := h.keeps_running hs.cfg hs.running
  code := by
    rcases h.status_cases with ⟨-, hresult⟩ | ⟨-, hresult⟩ | ⟨-, hresult⟩
    · exact hresult ▸ hs.code
    · exact hresult
    · exact hresult ▸ ErrorCode.code_le _
  frames := h.keeps_frames hs.cfg hs.frames

/-- The invariant says nothing of the port. -/
theorem CoreInv.with_inputs {s : State} (h : CoreInv s) (rest : List Input) : CoreInv { s with inputs := rest } :=
  { h with cfg := { h.cfg with }, fbuf := { h.fbuf with } }

/-- Settles O51. -/
theorem stepKeepsInvariant : Obligations.StepKeepsInvariant := by
  intro s t hs h
  rcases step_next h with ⟨-, rfl⟩ | ⟨rest, -, rfl⟩ | ⟨a, rest, i, -, -, hexec⟩
  · exact hs
  · exact (coreInv_resetWith hs.params).with_inputs rest
  · exact (exec_effect_commandOf hexec).keeps_coreInv (hs.with_inputs rest)

end Sys2Proof.Machine
end
